-- ==== Sys2Proof/Word.lean ====
section
/-! DEFINITION. The words of the part: bytes and text, SMC values, identifiers, and the tables that hold one
entry for each of the four services or groups and the eight ports, counters or alerts. -/

namespace Sys2Proof

/-- One byte of a link (spec/12 R184). -/
abbrev Byte := BitVec 8

/-- A station millisecond count, an unsigned 32-bit count that wraps (spec/01 R1). -/
abbrev Smc := BitVec 32

/-- Text: a list of 8-bit characters (spec/00, Conventions, Characters). -/
abbrev Text := List Byte

/-- A package identifier, 1..65535; 0 means no package (spec/00, Identifiers). -/
abbrev PackageId := BitVec 16

/-- A cue identifier, a 16-bit count kept per service (spec/04 R57). -/
abbrev CueId := BitVec 16

/-- A moment of the reference unit's internal timebase, or a length of time on it, in ticks of one third of a
microsecond counted from the last power-on reset. DESIGN CHOICE (log 1): the spec gives the timebase no unit. -/
abbrev Moment := Nat

/-- Contributor ports P0 to P7. -/
abbrev Port := Fin 8

/-- Relay groups G0 to G3. -/
abbrev Group := Fin 4

/-- Services S0 to S3. -/
abbrev Service := Fin 4

/-- The ports in order. -/
def allPorts : List Port := [0, 1, 2, 3, 4, 5, 6, 7]

/-- The groups in order. -/
def allGroups : List Group := [0, 1, 2, 3]

/-- The services in order S0 to S3. -/
def allServices : List Service := [0, 1, 2, 3]

/-- One entry for each of four members. -/
structure Per4 (α : Type) where
  m0 : α
  m1 : α
  m2 : α
  m3 : α
  deriving DecidableEq, Repr

/-- One entry for each of eight members. -/
structure Per8 (α : Type) where
  m0 : α
  m1 : α
  m2 : α
  m3 : α
  m4 : α
  m5 : α
  m6 : α
  m7 : α
  deriving DecidableEq, Repr

/-- The member numbered `i`. -/
def Per4.get {α : Type} (t : Per4 α) (i : Fin 4) : α :=
  match i with
  | 0 => t.m0
  | 1 => t.m1
  | 2 => t.m2
  | 3 => t.m3

/-- The table with the member numbered `i` replaced. -/
def Per4.set {α : Type} (t : Per4 α) (i : Fin 4) (x : α) : Per4 α :=
  match i with
  | 0 => { t with m0 := x }
  | 1 => { t with m1 := x }
  | 2 => { t with m2 := x }
  | 3 => { t with m3 := x }

/-- The member numbered `i`. -/
def Per8.get {α : Type} (t : Per8 α) (i : Fin 8) : α :=
  match i with
  | 0 => t.m0
  | 1 => t.m1
  | 2 => t.m2
  | 3 => t.m3
  | 4 => t.m4
  | 5 => t.m5
  | 6 => t.m6
  | 7 => t.m7

/-- The table with the member numbered `i` replaced. -/
def Per8.set {α : Type} (t : Per8 α) (i : Fin 8) (x : α) : Per8 α :=
  match i with
  | 0 => { t with m0 := x }
  | 1 => { t with m1 := x }
  | 2 => { t with m2 := x }
  | 3 => { t with m3 := x }
  | 4 => { t with m4 := x }
  | 5 => { t with m5 := x }
  | 6 => { t with m6 := x }
  | 7 => { t with m7 := x }

/-- Four equal entries. -/
def Per4.all {α : Type} (x : α) : Per4 α := ⟨x, x, x, x⟩

/-- Eight equal entries. -/
def Per8.all {α : Type} (x : α) : Per8 α := ⟨x, x, x, x, x, x, x, x⟩

/-- Every member replaced by its image. -/
def Per4.map {α β : Type} (t : Per4 α) (f : α → β) : Per4 β := ⟨f t.m0, f t.m1, f t.m2, f t.m3⟩

/-- Every member replaced by its image. -/
def Per8.map {α β : Type} (t : Per8 α) (f : α → β) : Per8 β :=
  ⟨f t.m0, f t.m1, f t.m2, f t.m3, f t.m4, f t.m5, f t.m6, f t.m7⟩

/-- The table of a function of the member's number. -/
def Per4.tabulate {α : Type} (f : Fin 4 → α) : Per4 α := ⟨f 0, f 1, f 2, f 3⟩

/-- The table of a function of the member's number. -/
def Per8.tabulate {α : Type} (f : Fin 8 → α) : Per8 α := ⟨f 0, f 1, f 2, f 3, f 4, f 5, f 6, f 7⟩

end Sys2Proof
end

