-- ==== Sys2Proof/Syntax.lean ====
section
/-! DEFINITION. The commands: one constructor of `Instr` for each row of spec/opcode_table.json, with its operands. -/

namespace Sys2Proof

/-- The kind of a contributor port (spec/02 R16). -/
inductive PortKind where
  | unused
  | writer
  | script
  deriving DecidableEq, Repr

/-- The scheduling mode of the output scheduler (spec/07 R120). -/
inductive SchedMode where
  | strict
  | wrr
  deriving DecidableEq, Repr

/-- The causes of a dropped word (spec/11 R166). -/
inductive Cause where
  | notOnAir
  | cutBefore
  | cutAfter
  | segment
  | noRoute
  | empty
  | overflow
  deriving DecidableEq, Repr

/-- A set of drop causes (spec/11 R166, cause mask). -/
structure CauseSet where
  notOnAir : Bool
  cutBefore : Bool
  cutAfter : Bool
  segment : Bool
  noRoute : Bool
  empty : Bool
  overflow : Bool
  deriving DecidableEq, Repr

/-- All seven drop causes (spec/11 R166). -/
def CauseSet.full : CauseSet := ⟨true, true, true, true, true, true, true⟩

/-- The events of the selection table, in its order (spec/11, Events and their attributes). -/
inductive EventKind where
  | wordAccepted
  | wordDropped
  | wordTruncated
  | staleClamped
  | linkErrors
  | holdSent
  | linkLoss
  | handover
  | failover
  | retractRefusedWords
  | cueClosed
  | cueLateClose
  | cueHeld
  | cueCut
  | cueSkipped
  | cueDeferred
  | moveSent
  | strapConflict
  | earlySwitch
  | outputBusyFrames
  | referenceLoss
  | holdoverFrames
  | labelJump
  | immediateNoAnchor
  | latenessMs
  | framesCatchup
  | intakeLevel
  | cueQueueLevel
  deriving DecidableEq, Repr

/-- The event field of a COUNTER SELECT: one event of the selection table, NONE, or a value that names neither.
The spec gives the field no encoding (log 25). -/
inductive EventSelector where
  | noEvent
  | event (e : EventKind)
  | outsideTable
  deriving DecidableEq, Repr

/-- A mask field of a COUNTER SELECT: a set of members, or a value outside the field's range, which names a member that
the part does not have. The spec gives the field no encoding (log 25). -/
inductive MaskField (α : Type) where
  | members (set : α)
  | outsideRange
  deriving DecidableEq, Repr

/-- The selection that COUNTER SELECT sends (spec/11 R171). -/
structure SelectionFields where
  event : EventSelector
  causes : MaskField CauseSet
  services : MaskField (Per4 Bool)
  ports : MaskField (Per8 Bool)
  threshold : Nat
  deriving DecidableEq, Repr

/-- A frame label (spec/01 R12). -/
structure Label where
  hours : Nat
  minutes : Nat
  seconds : Nat
  frames : Nat
  dropFrame : Bool
  deriving DecidableEq, Repr

/-- The value of a parameter (spec/12 R178). The spec gives enumerated values no encoding, so they are named
(log 15). -/
inductive ParamValue where
  | num (v : Int)
  | kind (k : PortKind)
  | group (g : Option Group)
  | enabled (b : Bool)
  | mode (m : SchedMode)
  deriving DecidableEq, Repr

/-- The fields of a PKG-CUE message as received (spec/02 R23): one or two rows of text. -/
structure PkgCueFields where
  offset : Nat
  duration : Nat
  row1 : Text
  row2 : Option Text
  speaker : Bool
  deriving DecidableEq, Repr

/-- What may be taken at a frame boundary beside the output scheduler's work: the expiry of a timer (spec/01 R3) or the
take of a record by its consumer (spec/02 R27). -/
inductive BoundaryTask where
  | refresh (p : Port)
  | silence (p : Port)
  | yieldEnd (g : Group)
  | cutAged (g : Group)
  | idle (k : Service)
  | effects
  | switches (k : Service)
  | liveStartAged (k : Service)
  | lastChangeAged (k : Service)
  | take (p : Port)
  deriving DecidableEq, Repr

/-- The order in which the things of one frame boundary are taken. The members of `between` say what is taken before the
first piece of the output scheduler's work, before the second, and so on, and `late` what is taken after the work (spec/07
R112, R126, spec/10 R164); the levels are sampled once `sample` of all these things have been taken (spec/11 R169, spec/05
R90). The spec leaves this order to which is taken first; that the command carries it is the model's choice (log 5). -/
structure BoundaryOrder where
  between : List (List BoundaryTask)
  late : List BoundaryTask
  sample : Nat
  deriving DecidableEq, Repr

/-- The commands of the part. `moment` is a moment of the internal timebase; `order` says in which order the things of the
boundary are taken, if the command makes one. -/
inductive Instr where
  | powerOnReset
  | referencePulse (moment : Moment) (order : BoundaryOrder)
  | missingPulse
  | lossOfReference (order : BoundaryOrder)
  | flywheelBoundary (order : BoundaryOrder)
  | frameLabel (checkOk : Bool) (label : Label)
  | contributorFrameFailure (p : Port) (raw : List Byte)
  | word (p : Port) (payload : List Byte)
  | retract (p : Port) (count : Nat)
  | stamp (p : Port) (payload : List Byte)
  | take (p : Port)
  | release (p : Port)
  | pkgOpen (p : Port) (id : PackageId) (count : Nat)
  | pkgCue (p : Port) (cue : PkgCueFields)
  | pkgClose (p : Port) (id : PackageId)
  | pkgDrop (p : Port) (id : PackageId)
  | refreshDeadlineExpiry (p : Port)
  | silenceDeadlineExpiry (p : Port)
  | wordRecordTake (p : Port)
  | retractRecordTake (p : Port)
  | pkgOpenTake (p : Port)
  | pkgCueTake (p : Port)
  | pkgCloseTake (p : Port)
  | pkgDropTake (p : Port)
  | yieldDeadlineExpiry (g : Group)
  | cutTimeAged (g : Group)
  | idleDeadlineExpiry (k : Service)
  | clearDeadlineExpiry (k : Service)
  | outputStalled
  | ready
  | busy
  | outputFrameDropped
  | event (payload : List Byte)
  | automationFrameDropped
  | effectTimeExpiry
  | switchTimeExpiry (k : Service)
  | liveStartAged (k : Service)
  | lastChangeAged (k : Service)
  | transactionStart
  | commandCheckFailed (raw : List Byte)
  | unknownCommandType (type : Byte)
  | parameterRead (row member index : Nat)
  | parameterWrite (moment : Moment) (row member index : Nat) (value : ParamValue)
  | frameRateWrite (moment : Moment) (value : ParamValue)
  | configuredRouteWrite (index : Nat) (value : ParamValue)
  | flowControlWrite (index : Nat) (value : ParamValue)
  | schedulingModeWrite (value : ParamValue)
  | poolRegionWrite (member : Nat) (value : ParamValue)
  | start
  | stop
  | flushPort (port : Nat)
  | flushService (service : Nat)
  | counterSelect (counter : Nat) (selection : SelectionFields)
  | counterClear (counter : Nat)
  | counterRead (clears : Per8 Bool)
  | alertStatus
  | alertClear (marks : Per8 Bool)
  | alertEnable (marks : Per8 Bool)
  | referenceStatus
  | portStatus (port : Nat)
  | groupStatus (group : Nat)
  | serviceStatus (service : Nat)
  | layoutStatus
  | automationStatus
  | packageStatus
  | responseReady
  deriving DecidableEq, Repr

end Sys2Proof
end

