-- ==== Sys2Proof/Machine/State.lean ====
section
/-! DEFINITION. The state of the part, as plain data, and its value after power-on reset. -/

namespace Sys2Proof.Machine

/-! ### The reference unit (spec/01) -/

/-- The frame rate F (R11). -/
inductive Rate where
  | fps25
  | fps30
  | fps50
  | fps60
  deriving DecidableEq, Repr

/-- The four states of the reference unit. -/
inductive RefState where
  | free
  | qualifying
  | locked
  | holdover
  deriving DecidableEq, Repr

/-- The state that QUALIFYING was entered from (R5, R10). -/
inductive RefOrigin where
  | free
  | holdover
  deriving DecidableEq, Repr

/-- A valid timecode anchor (R13): frame-of-day, SMC and the cadence phase current just after that boundary. -/
structure Anchor where
  frame : Nat
  smc : Smc
  phase : Fin 3
  deriving DecidableEq, Repr

/-- The reference unit (R1 to R15). `origin` is the state qualified from; `flywheel` is the moment of the next
flywheel boundary, absent while the flywheel does not run; `lastBoundary` is the moment of the last frame boundary,
which the swallow guard measures from (R7, R8). -/
structure RefUnit where
  state : RefState
  origin : Option RefOrigin
  smc : Smc
  phase : Fin 3
  rate : Rate
  trim : Int
  pulseRecord : Option Moment
  goodCount : Nat
  history : List Nat
  holdoverPeriod : Option Nat
  flywheel : Option Moment
  lastBoundary : Option Moment
  anchor : Option Anchor
  deriving DecidableEq, Repr

/-! ### The entry store (spec/06) -/

/-- A region: a run of whole blocks (R97). -/
structure Region where
  first : Nat
  count : Nat
  deriving DecidableEq, Repr

/-- The collections that can have a region (R98). -/
inductive RegionName where
  | port (p : Port)
  | service (k : Service)
  | pool
  deriving DecidableEq, Repr

/-- The layout in force (R101). -/
structure Layout where
  ports : Per8 (Option Region)
  services : Per4 (Option Region)
  pool : Option Region
  deriving DecidableEq, Repr

/-! ### Contributor ports (spec/02) and retract histories (spec/04) -/

/-- The relay states of a WRITER port and the link states of a SCRIPT port (R16, R38). -/
inductive LinkState where
  | offline
  | standby
  | ready
  | taking
  | onAir
  | yielding
  | up
  deriving DecidableEq, Repr

/-- The flow state (R30). -/
inductive FlowState where
  | flowing
  | held
  deriving DecidableEq, Repr

/-- The load context of a SCRIPT port (spec/10 R155). -/
inductive LoadContext where
  | idle
  | loading (id : PackageId)
  | ignoring (id : PackageId)
  deriving DecidableEq, Repr

/-- A WORD record (R21). The port it holds is the port whose queue it is in. -/
structure WordRecord where
  tick : BitVec 32
  arrival : Smc
  sentenceEnd : Bool
  speakerChange : Bool
  text : Text
  truncated : Bool
  deriving DecidableEq, Repr

/-- A prepared cue (spec/10 R154): `row2` is present when the cue has two rows. -/
structure PreparedCue where
  offset : Nat
  duration : Nat
  row1 : Text
  row2 : Option Text
  speaker : Bool
  deriving DecidableEq, Repr

/-- The records of an intake queue (R21 to R23). -/
inductive IntakeRecord where
  | word (w : WordRecord)
  | retract (count : Nat) (arrival : Smc)
  | pkgOpen (id : PackageId) (count : Nat)
  | pkgCue (cue : PreparedCue)
  | pkgClose (id : PackageId)
  | pkgDrop (id : PackageId)
  deriving DecidableEq, Repr

/-- The state of a placement (spec/04 R68). -/
inductive PlacementState where
  | amendable
  | committed
  | gone
  deriving DecidableEq, Repr

/-- One placement of a word: service, cue, row (1 or 2), position in the row from 1, state (spec/04 R66). -/
structure Placement where
  service : Service
  cue : CueId
  row : Nat
  pos : Nat
  state : PlacementState
  deriving DecidableEq, Repr

/-- An entry of a retract history: the placements of one accepted word (spec/04 R66). -/
abbrev HistoryEntry := List Placement

/-- The parameters of a port (R16, R98). -/
structure PortParams where
  kind : PortKind
  group : Option Group
  lag : Nat
  holdTime : Nat
  flowControl : Bool
  hw : Nat
  lw : Nat
  region : Region
  deriving DecidableEq, Repr

/-- A contributor port: its parameters and its live state (R18, R24, R27, R30; history spec/04 R66; load spec/10
R155). `marks` holds the watermarks in force, HW and LW. -/
structure PortState where
  par : PortParams
  link : LinkState
  lastHeard : Option Smc
  silence : Option Smc
  window : List Int
  queue : List IntakeRecord
  flow : FlowState
  refresh : Option Smc
  marks : Option (Nat × Nat)
  history : List HistoryEntry
  load : LoadContext
  deriving DecidableEq, Repr

/-! ### Relay groups (spec/03) -/

/-- A group record and the group's two parameters (R37): `cut` is C and `grant` is g_t. -/
structure GroupState where
  yieldTimeout : Nat
  failover : Bool
  onAir : Option Port
  taking : Option Port
  yielding : Option Port
  cut : Option Smc
  grant : Option Smc
  yieldDeadline : Option Smc
  deriving DecidableEq, Repr

/-! ### Cues (spec/04, spec/05) -/

/-- A placed word (spec/04 R57). -/
structure PlacedWord where
  text : Text
  port : Port
  speech : Smc
  truncated : Bool
  deriving DecidableEq, Repr

/-- The text of an open or closed live cue (spec/04 R57): `width` and `formedRows` are the formed width and rows;
`row2` is empty until a word has been placed on row 2. -/
structure CueBody where
  id : CueId
  width : Nat
  formedRows : Nat
  row1 : List PlacedWord
  row2 : List PlacedWord
  speaker : Bool
  deriving DecidableEq, Repr

/-- The open cue of a service (spec/04 R57). -/
structure OpenCue where
  body : CueBody
  lastAdd : Smc
  idleDeadline : Smc
  deriving DecidableEq, Repr

/-- A closed live cue record (spec/05 R91): `close` is c, `reading` is d, `present` is P. -/
structure CueRecord where
  body : CueBody
  close : Smc
  reading : Nat
  present : Smc
  lateness : Int
  lateClose : Bool
  heldByPrevious : Bool
  deriving DecidableEq, Repr

/-- The timing phase of a service (spec/05 R90). -/
inductive Phase where
  | normal
  | catchup
  deriving DecidableEq, Repr

/-! ### Output link and placement (spec/07, spec/08) -/

/-- A band of screen rows (spec/08 R129). -/
structure Band where
  top : Nat
  height : Nat
  deriving DecidableEq, Repr

/-- A strap: rows r1..r2 (spec/08 R131). -/
structure Strap where
  r1 : Nat
  r2 : Nat
  deriving DecidableEq, Repr

/-- A committed prepared cue as the package store gives it (spec/07 R111, spec/10 R163). -/
structure PreparedShow where
  package : PackageId
  position : Nat
  row1 : Text
  row2 : Option Text
  duration : Nat
  present : Smc
  speaker : Bool
  truncated : Bool
  deriving DecidableEq, Repr

/-- What a committed cue slot holds (spec/07 R111). -/
inductive CommittedSource where
  | live (cue : CueRecord)
  | prepared (cue : PreparedShow)
  deriving DecidableEq, Repr

/-- A committed cue with its band and its two marks (spec/07 R111, spec/08 R133, R136). -/
structure Committed where
  source : CommittedSource
  band : Band
  conflict : Bool
  mapChanged : Bool
  deriving DecidableEq, Repr

/-- The record of the cue on screen (spec/07 R110) with its conflict mark (spec/08 R133). `cueId` is the id of a live
cue or the position of a prepared one; `source` is absent for LIVE and the package id of a prepared cue. -/
structure ShowRecord where
  cueId : Nat
  source : Option PackageId
  band : Band
  shown : Smc
  clearDeadline : Option Smc
  present : Smc
  hold : Nat
  anchor : Option Smc
  conflict : Bool
  deriving DecidableEq, Repr

/-- The display of a service (spec/07 R110). -/
inductive Display where
  | blank
  | showing (r : ShowRecord)
  deriving DecidableEq, Repr

/-- The pending control of a display (spec/07 R110). -/
inductive Control where
  | none
  | clear
  | move (b : Band)
  deriving DecidableEq, Repr

/-- The inserter state (spec/07 R124). -/
inductive Inserter where
  | ready
  | busy
  deriving DecidableEq, Repr

/-! ### Automation and packages (spec/09, spec/10) -/

/-- The kinds of segment, and of presentation in force (spec/09 R145, R147). -/
inductive SegKind where
  | live
  | package
  | brk
  deriving DecidableEq, Repr

/-- The current segment: PACKAGE carries its package id (spec/09 R145). -/
inductive Segment where
  | live
  | package (id : PackageId)
  | brk
  deriving DecidableEq, Repr

/-- The kind and content of a pending automation entry, as repaired (spec/09 R139, R140). -/
inductive EventBody where
  | segment (seg : Segment)
  | strap (slot : Fin 4) (rows : Option Strap)
  | route (g : Option Group)
  | delay (d : Nat)
  deriving DecidableEq, Repr

/-- An entry of the pending automation list (spec/09 R141). `armed` is the model's own mark: a frame boundary has been
made since the entry joined, so that its expiry can be examined (spec/01 R3, log 6). -/
structure PendingEvent where
  effect : Smc
  service : Service
  body : EventBody
  armed : Bool
  deriving DecidableEq, Repr

/-- The kind and content of a presentation switch entry (spec/09 R146): a PACKAGE entry carries its package id and
the effect SMC of its SEGMENT. -/
inductive SwitchBody where
  | live
  | brk
  | package (id : PackageId) (effect : Smc)
  | strap (slot : Fin 4) (rows : Option Strap)
  deriving DecidableEq, Repr

/-- An entry of a presentation switch list (spec/09 R146); `armed` as for a pending event. -/
structure SwitchEntry where
  switch : Smc
  body : SwitchBody
  armed : Bool
  deriving DecidableEq, Repr

/-- The last LIVE, PACKAGE or BREAK entry applied, with the mark of a fallback (spec/09 R147). -/
structure LastSwitch where
  kind : SegKind
  switch : Smc
  fellBack : Bool
  deriving DecidableEq, Repr

/-- A play pointer (spec/10 R162): `pos` counts from 1 and lies past the end when it exceeds the cue count. -/
structure PlayPointer where
  package : PackageId
  pos : Nat
  switch : Smc
  deriving DecidableEq, Repr

/-- The state of a package (spec/10 R154). -/
inductive LoadState where
  | loading
  | ready
  deriving DecidableEq, Repr

/-- A package record (spec/10 R154). The received count is the number of prepared cues; the playing-on set is the set
of services whose play pointer names the package (R162, R164). -/
structure PackageRecord where
  id : PackageId
  state : LoadState
  declared : Nat
  cues : List PreparedCue
  loadingPort : Option Port
  deriving DecidableEq, Repr

/-! ### Services -/

/-- The parameters of a service (spec/12 R178). -/
structure ServiceParams where
  enabled : Bool
  route : Option Group
  rowWidth : Nat
  rowsPerCue : Nat
  idleClose : Nat
  delay : Nat
  lead : Nat
  closeMargin : Nat
  minReading : Nat
  catchupFloor : Nat
  readingRate : Nat
  gap : Nat
  lateLimit : Nat
  maxHold : Nat
  weight : Nat
  baseRow : Nat
  topRow : Nat
  region : Region
  deriving DecidableEq, Repr

/-- A caption service: its parameters and its live state. -/
structure ServiceState where
  par : ServiceParams
  liveRoute : Option Group
  cueCounter : CueId
  openCue : Option OpenCue
  queue : List CueRecord
  phase : Phase
  lastLateness : Option Int
  display : Display
  control : Control
  committed : Option Committed
  deficit : Nat
  shownLateness : Option Int
  rowMap : Per4 (Option Strap)
  segCurrent : Segment
  segPrevious : SegKind
  lastChange : Option Smc
  switches : List SwitchEntry
  kindInForce : SegKind
  liveStart : Option Smc
  lastSwitch : Option LastSwitch
  pointer : Option PlayPointer
  deriving DecidableEq, Repr

/-! ### Counters and alerts (spec/11) -/

/-- A quality counter (R166). An absent event is NONE. -/
structure Counter where
  event : Option EventKind
  causes : CauseSet
  services : Per4 Bool
  ports : Per8 Bool
  threshold : Nat
  value : Nat
  saturated : Bool
  deriving DecidableEq, Repr

/-- An alert: its flag, enable and source set (R172). A source is the number of a port, a service or a counter. -/
structure AlertState where
  flag : Bool
  enable : Bool
  sources : Per8 Bool
  deriving DecidableEq, Repr

/-! ### Messages sent (spec/02 R35, spec/03 R42, R48, spec/04 R73, spec/07 R128, spec/09 R139, spec/10 R159) -/

/-- The results of a TAKE answer (spec/03 R42). -/
inductive TakeResult where
  | granted
  | noGroup
  | notReady
  | already
  | busy
  deriving DecidableEq, Repr

/-- The reason of a RETRACT answer (spec/04 R73). -/
inductive RetractReason where
  | none
  | tooLate
  | noHistory
  deriving DecidableEq, Repr

/-- The causes of a failed load (spec/10 R159). -/
inductive LoadFailure where
  | order
  | full
  | count
  deriving DecidableEq, Repr

/-- The result and detail of a PACKAGE ANSWER (spec/10 R159). -/
inductive PackageResult where
  | loaded (received : Nat)
  | dropped
  | failed (why : LoadFailure) (received : Nat)
  | busy
  | unknown
  deriving DecidableEq, Repr

/-- The messages a contributor port sends. -/
inductive PortMsg where
  | state (link : LinkState) (samples : Nat)
  | hold (time : Nat)
  | resume
  | takeAnswer (result : TakeResult) (cutTick : Option (BitVec 32))
  | releaseAnswer (released : Bool)
  | retractAnswer (removed refused : Nat) (reason : RetractReason)
  | packageAnswer (id : PackageId) (result : PackageResult)
  deriving DecidableEq, Repr

/-- The result of an automation ANSWER; an accepted one carries the effect SMC and the immediate flag (spec/09 R139,
R140). -/
inductive AnswerResult where
  | range
  | full
  | accepted (effect : Smc) (immediate : Bool)
  | clamped (effect : Smc) (immediate : Bool)
  | missing (effect : Smc) (immediate : Bool)
  deriving DecidableEq, Repr

/-- An automation ANSWER (spec/09 R139). -/
structure Answer where
  tag : BitVec 16
  result : AnswerResult
  deriving DecidableEq, Repr

/-- The messages of the output link (spec/07 R128). -/
inductive OutputMsg where
  | showCue (service : Service) (cueId : Nat) (source : Option PackageId) (band : Band) (speaker truncated : Bool)
      (row1 : Text) (row2 : Option Text)
  | clear (service : Service)
  | move (service : Service) (band : Band)
  deriving DecidableEq, Repr

/-! ### The supervisory unit (spec/12) -/

/-- The operating mode (R180). -/
inductive Mode where
  | config
  | run
  deriving DecidableEq, Repr

/-- The response codes (R176). -/
inductive Code where
  | ok
  | mode
  | range
  | layout
  | unknown
  | check
  deriving DecidableEq, Repr

/-- The failures of the layout check (spec/06 R100). -/
inductive LayoutFailure where
  | missing
  | bounds
  | overlap
  deriving DecidableEq, Repr

/-- The fields of REFERENCE STATUS (spec/01 R11). -/
structure ReferenceStatus where
  state : RefState
  origin : Option RefOrigin
  goodCount : Nat
  smc : Smc
  phase : Fin 3
  anchorValid : Bool
  anchorLabel : Option Label
  deriving DecidableEq, Repr

/-- The fields of PORT STATUS (R177). -/
structure PortStatus where
  link : LinkState
  window : List Int
  estimate : Option Int
  occupancy : Nat
  marks : Option (Nat × Nat)
  flow : FlowState
  historyEntries : Nat
  load : LoadContext
  deriving DecidableEq, Repr

/-- The fields of GROUP STATUS (spec/03 R37). -/
structure GroupStatus where
  onAir : Option Port
  taking : Option Port
  yielding : Option Port
  cut : Option Smc
  grant : Option Smc
  yieldDeadline : Option Smc
  deriving DecidableEq, Repr

/-- What a display status reports of the cue on screen (spec/07 R110). -/
structure DisplayStatus where
  cueId : Nat
  source : Option PackageId
  band : Band
  shown : Smc
  deriving DecidableEq, Repr

/-- What the status reports of the open cue (spec/04 R57). -/
structure OpenStatus where
  id : CueId
  row1Length : Nat
  row2Length : Nat
  count : Nat
  deriving DecidableEq, Repr

/-- The fields of SERVICE STATUS: those that the chapters from cue assembly to packages, and the route table, name
for it (R177; spec/03 R53, spec/04 R57, spec/05 R78, R90, spec/06 R102, spec/07 R110, R120, R122, spec/08 R130, R131,
spec/09 R145 to R147, spec/10 R162). -/
structure ServiceStatus where
  par : ServiceParams
  liveRoute : Option Group
  openCue : Option OpenStatus
  phase : Phase
  lastLateness : Option Int
  occupancy : Nat
  head : Option (CueId × Smc)
  tail : Option (CueId × Smc)
  display : Option DisplayStatus
  control : Control
  shownLateness : Option Int
  deficit : Nat
  schedMode : SchedMode
  budget : Nat
  roundRobin : Service
  rowMap : Per4 (Option Strap)
  segCurrent : Segment
  segPrevious : SegKind
  lastChange : Option Smc
  switches : List (Smc × SwitchBody)
  kindInForce : SegKind
  liveStart : Option Smc
  lastSwitch : Option LastSwitch
  pointer : Option (PackageId × Option Nat × Smc)
  deriving DecidableEq, Repr

/-- The fields of LAYOUT STATUS (spec/06 R98). -/
structure LayoutStatus where
  ports : Per8 Region
  services : Per4 Region
  pool : Region
  inForce : Option Layout
  deriving DecidableEq, Repr

/-- The kinds of automation event (spec/09 R139). -/
inductive EventTag where
  | segment
  | strap
  | route
  | delay
  deriving DecidableEq, Repr

/-- What PACKAGE STATUS reports of an occupied slot (spec/10 R154). -/
structure PackageStatus where
  id : PackageId
  state : LoadState
  declared : Nat
  received : Nat
  loadingPort : Option Port
  playingOn : Per4 Bool
  deriving DecidableEq, Repr

/-- The fields a command returns (R177). -/
inductive ResponseFields where
  | none
  | value (v : ParamValue)
  | count (n : Nat)
  | layoutFailure (region : RegionName) (why : LayoutFailure)
  | counters (cs : Per8 Counter)
  | alerts (as : Per8 AlertState)
  | reference (r : ReferenceStatus)
  | port (r : PortStatus)
  | group (r : GroupStatus)
  | service (r : ServiceStatus)
  | layout (r : LayoutStatus)
  | automation (entries : List (Smc × EventTag × Service))
  | packages (slots : List (Option PackageStatus)) (poolInUse : Nat)
  deriving DecidableEq, Repr

/-- A response frame (R176). -/
structure Response where
  type : Byte
  code : Code
  overrun : Bool
  smc : Smc
  fields : ResponseFields
  deriving DecidableEq, Repr

/-- The transaction under way (R175): none; one that may carry a command; or one that began while a command was still
executing, whose own command is discarded. -/
inductive Transaction where
  | none
  | carrying
  | discarding
  deriving DecidableEq, Repr

/-- The supervisory unit (R175): `executing` is the response of the command under way, before it fills the buffer. -/
structure Supervisory where
  buffer : Option Response
  ready : Bool
  overrun : Bool
  executing : Option Response
  transaction : Transaction
  deriving DecidableEq, Repr

/-- What each link has sent, oldest first: the model's own record of the part's outputs (log 14). An SPI entry is what
one transaction shifted out, absent for zero bytes. -/
structure Sent where
  ports : Per8 (List PortMsg)
  automation : List Answer
  output : List OutputMsg
  spi : List (Option Response)
  deriving DecidableEq, Repr

/-! ### The whole -/

/-- The state of the part. `pending` is the queue of commands that wait, first in first out; `sent` and `freeIndex`
are the model's own. -/
structure State where
  pending : List Instr
  mode : Mode
  ref : RefUnit
  ports : Per8 PortState
  groups : Per4 GroupState
  services : Per4 ServiceState
  silenceTimeout : Nat
  schedMode : SchedMode
  budget : Nat
  poolRegion : Region
  layout : Option Layout
  roundRobin : Service
  inserter : Inserter
  busyCount : Nat
  events : List PendingEvent
  packages : List (Option PackageRecord)
  counters : Per8 Counter
  alerts : Per8 AlertState
  sup : Supervisory
  sent : Sent
  freeIndex : Nat
  deriving DecidableEq, Repr

/-- The ways the part can stop. None: every error that the spec names is an answer, a drop with a counter event, an
alert or a response code, and the part goes on. Nothing raises a fault (safe). -/
inductive Fault where
  deriving DecidableEq, Repr

/-- The commands the model does not run. -/
inductive Refusal where
  /-- Raised only by an arm of `exec` whose command has no meaning yet (safe: the model stops). No arm does. -/
  | notModelled (mnemonic : String)
  deriving DecidableEq, Repr

/-! ### Power-on reset (spec/12 R183) -/

/-- The reference unit after power-on reset (spec/01 R15): the flywheel runs at the nominal period of 40 ms, 120 000
ticks, and its first boundary falls one period after reset. -/
def RefUnit.reset : RefUnit where
  state := .free
  origin := none
  smc := 0
  phase := 0
  rate := .fps25
  trim := 0
  pulseRecord := none
  goodCount := 0
  history := []
  holdoverPeriod := none
  flywheel := some 120000
  lastBoundary := none
  anchor := none

/-- No region is configured (spec/06 R98). -/
def Region.unset : Region := ⟨0, 0⟩

/-- A port's parameters after power-on reset (spec/02 R16). -/
def PortParams.reset : PortParams where
  kind := .unused
  group := none
  lag := 1000
  holdTime := 1000
  flowControl := true
  hw := 0
  lw := 0
  region := .unset

/-- A port after power-on reset (spec/02 R36). -/
def PortState.reset : PortState where
  par := .reset
  link := .offline
  lastHeard := none
  silence := none
  window := []
  queue := []
  flow := .flowing
  refresh := none
  marks := none
  history := []
  load := .idle

/-- A group after power-on reset (spec/03 R56). -/
def GroupState.reset : GroupState where
  yieldTimeout := 4000
  failover := false
  onAir := none
  taking := none
  yielding := none
  cut := none
  grant := none
  yieldDeadline := none

/-- A service's parameters after power-on reset (spec/12 R178). -/
def ServiceParams.reset : ServiceParams where
  enabled := false
  route := none
  rowWidth := 37
  rowsPerCue := 2
  idleClose := 1500
  delay := 0
  lead := 200
  closeMargin := 200
  minReading := 1200
  catchupFloor := 600
  readingRate := 15
  gap := 80
  lateLimit := 3000
  maxHold := 6000
  weight := 1
  baseRow := 14
  topRow := 2
  region := .unset

/-- A service after power-on reset (spec/04 R76, spec/05 R95, spec/07 R127, spec/08 R138, spec/09 R153,
spec/10 R165). -/
def ServiceState.reset : ServiceState where
  par := .reset
  liveRoute := none
  cueCounter := 0
  openCue := none
  queue := []
  phase := .normal
  lastLateness := none
  display := .blank
  control := .none
  committed := none
  deficit := 0
  shownLateness := none
  rowMap := Per4.all none
  segCurrent := .live
  segPrevious := .live
  lastChange := none
  switches := []
  kindInForce := .live
  liveStart := none
  lastSwitch := none
  pointer := none

/-- A counter after power-on reset (spec/11 R166). -/
def Counter.reset : Counter where
  event := none
  causes := .full
  services := Per4.all true
  ports := Per8.all true
  threshold := 0
  value := 0
  saturated := false

/-- An alert after power-on reset (spec/11 R172). -/
def AlertState.reset : AlertState := ⟨false, false, Per8.all false⟩

/-- The supervisory unit after power-on reset (R183). -/
def Supervisory.reset : Supervisory := ⟨none, false, false, none, .none⟩

/-- Nothing has been sent. -/
def Sent.empty : Sent := ⟨Per8.all [], [], [], []⟩

/-- The part after power-on reset (R183), with an empty queue of commands. -/
def State.reset : State where
  pending := []
  mode := .config
  ref := .reset
  ports := Per8.all .reset
  groups := Per4.all .reset
  services := Per4.all .reset
  silenceTimeout := 2000
  schedMode := .strict
  budget := 160
  poolRegion := .unset
  layout := none
  roundRobin := 3
  inserter := .ready
  busyCount := 0
  events := []
  packages := List.replicate 32 none
  counters := Per8.all .reset
  alerts := Per8.all .reset
  sup := .reset
  sent := .empty
  freeIndex := 0

end Sys2Proof.Machine
end

