-- ==== Sys2Proof/Decode.lean ====
section
/-! DEFINITION. The decoder over the rows of spec/opcode_table.json that give bits: none does. -/

namespace Sys2Proof

/-- The command that `nbits` bits `w` spell by the table. No row of the table gives a bit ("fields": [] in all 66),
so no word spells a command. -/
def decodeTableWord (_nbits _w : Nat) : Option Instr := none

end Sys2Proof
end

