-- ==== Sys2Proof/Machine/Time.lean ====
section
/-! DEFINITION. Times on the station timeline: the modular comparison of SMC values (spec/00, Reading times; spec/05
R77), the cadence of a frame rate (spec/01 R1, R2), the snap to a predicted boundary (spec/05 R87), and the lengths of
time on the timebase that judge pulses (spec/01 R4 to R9). -/

namespace Sys2Proof.Machine

/-! ### Modular times -/

/-- The difference b − a of two SMC values, read as a signed 32-bit value (spec/00, Reading times). -/
def elapsed (a b : Smc) : Int := (b - a).toInt

/-- "b is later than a": the difference b − a is positive. -/
def later (b a : Smc) : Bool := 0 < elapsed a b

/-- "b is earlier than a": the difference b − a is negative. -/
def earlier (b a : Smc) : Bool := elapsed a b < 0

/-- The later of a and b is b when b is later than a, and a otherwise (R77). -/
def laterOf (a b : Smc) : Smc := if later b a then b else a

/-- An SMC value plus a duration, modulo 2^32. -/
def plus (a : Smc) (d : Nat) : Smc := a + BitVec.ofNat 32 d

/-- An SMC value less a duration, modulo 2^32. -/
def minus (a : Smc) (d : Nat) : Smc := a - BitVec.ofNat 32 d

/-- A deadline is reached when the SMC is not earlier than it (spec/01 R3). -/
def reached (now deadline : Smc) : Bool := !earlier now deadline

/-- A kept time becomes absent once the count has passed it by 2^30 ms (spec/01 R3; spec/03 R37, spec/05 R86,
spec/09 R145). -/
def aged (now t : Smc) : Bool := 2 ^ 30 ≤ elapsed t now

/-! ### The cadence (R1) -/

/-- Frames per second. -/
def Rate.fps : Rate → Nat
  | .fps25 => 25
  | .fps30 => 30
  | .fps50 => 50
  | .fps60 => 60

/-- The rate of a number of frames per second (R11). -/
def Rate.ofFps (v : Int) : Option Rate :=
  if v = 25 then some .fps25
  else if v = 30 then some .fps30
  else if v = 50 then some .fps50
  else if v = 60 then some .fps60
  else none

/-- The cycle length of the cadence pattern. -/
def Rate.cycle : Rate → Nat
  | .fps25 => 1
  | .fps50 => 1
  | .fps30 => 3
  | .fps60 => 3

/-- Milliseconds of one cycle of the pattern. -/
def Rate.perCycle : Rate → Nat
  | .fps25 => 40
  | .fps50 => 20
  | .fps30 => 100
  | .fps60 => 50

/-- The cadence step at a phase (the table of R1). -/
def Rate.step (r : Rate) (ph : Fin 3) : Nat :=
  match r, ph with
  | .fps25, _ => 40
  | .fps50, _ => 20
  | .fps30, 0 => 33
  | .fps30, 1 => 33
  | .fps30, 2 => 34
  | .fps60, 0 => 17
  | .fps60, 1 => 17
  | .fps60, 2 => 16

/-- The phase after a boundary: advanced by one, modulo the cycle length. -/
def Rate.nextPhase (r : Rate) (ph : Fin 3) : Fin 3 :=
  match r with
  | .fps25 => 0
  | .fps50 => 0
  | .fps30 => ph + 1
  | .fps60 => ph + 1

/-- The sum of the next `k` cadence steps from a phase, one by one. -/
def Rate.sumSteps (r : Rate) (ph : Fin 3) : Nat → Nat
  | 0 => 0
  | k + 1 => r.step ph + r.sumSteps (r.nextPhase ph) k

/-- The sum of the next `d` cadence steps, by whole cycles and the steps that remain (R14). -/
def Rate.sumFrames (r : Rate) (ph : Fin 3) (d : Nat) : Nat :=
  d / r.cycle * r.perCycle + r.sumSteps ph (d % r.cycle)

/-- The steps from a phase until their sum reaches `need`, at most `fuel` of them. -/
def Rate.climb (r : Rate) (ph : Fin 3) : Nat → Nat → Nat
  | 0, _ => 0
  | fuel + 1, need =>
    if need = 0 then 0 else r.step ph + r.climb (r.nextPhase ph) fuel (need - r.step ph)

/-- How far ahead the first predicted boundary lies that is at least `gap` ms ahead (`gap` positive): whole cycles,
then single steps (R87). -/
def Rate.snapGap (r : Rate) (ph : Fin 3) (gap : Nat) : Nat :=
  let whole := (gap - 1) / r.perCycle * r.perCycle
  whole + r.climb ph 3 (gap - whole)

/-- The SMC of the `k`-th boundary from now in the predicted sequence (R2), `k` counted from 1. -/
def RefUnit.predicted (u : RefUnit) (k : Nat) : Smc := plus u.smc (u.rate.sumSteps u.phase k)

/-- The next boundary: the current SMC plus the step of the current phase (R2, R112). -/
def RefUnit.nextBoundary (u : RefUnit) : Smc := plus u.smc (u.rate.step u.phase)

/-- The snap of a time (R87): the first predicted boundary not earlier than it, or the current SMC when the time is
not later than the current SMC. -/
def RefUnit.snap (u : RefUnit) (t : Smc) : Smc :=
  if later t u.smc then plus u.smc (u.rate.snapGap u.phase (elapsed u.smc t).toNat) else u.smc

/-! ### Lengths of time on the timebase, in ticks of one third of a microsecond -/

/-- The nominal period 1000/F ms, held exactly (R1). -/
def Rate.nominal : Rate → Nat
  | .fps25 => 120000
  | .fps30 => 100000
  | .fps50 => 60000
  | .fps60 => 50000

/-- The swallow guard: half a nominal period (R7). -/
def Rate.halfPeriod (r : Rate) : Nat := r.nominal / 2

/-- The loss window: 1.5 nominal periods (R6, R8). -/
def Rate.lossWindow (r : Rate) : Nat := r.nominal + r.nominal / 2

/-- The trimmed nominal period: nominal multiplied by 1 + t/10 000 (R5). -/
def Rate.trimmed (r : Rate) (trim : Int) : Nat := r.nominal / 10000 * (10000 + trim).toNat

/-- A pulse is good when its measured interval lies within 1 % of the nominal period, ends included (R4). -/
def Rate.goodInterval (r : Rate) (interval : Nat) : Bool :=
  r.nominal - r.nominal / 100 ≤ interval && interval ≤ r.nominal + r.nominal / 100

end Sys2Proof.Machine
end

