-- ==== Sys2Proof/WellFormed.lean ====
section
/-! DEFINITION. Which operands a command can carry on its link: the payload limits of spec/12 R184, the command
types of spec/12 R177 and the shape of a PKG-CUE (spec/02 R23). `exec` is defined on every command all the same. -/

namespace Sys2Proof

/-- The payload limit of the contributor, automation and output links (spec/12 R184). -/
def payloadLimit : Nat := 96

/-- The payload limit of the supervisory link (spec/12 R184). -/
def supervisoryLimit : Nat := 255

/-- The type bytes 0x80 to 0x92 name the supervisory commands (spec/12, Message types). -/
def namesCommand (type : Byte) : Bool := 0x80 ≤ type.toNat && type.toNat ≤ 0x92

/-- The text of a PKG-CUE fits the payload limit together with its other fields, which take at least one byte. -/
def PkgCueFields.fits (c : PkgCueFields) : Bool :=
  c.row1.length + (c.row2.getD []).length < payloadLimit

/-- The command can stand on its link. -/
def Instr.wellFormed : Instr → Bool
  | .word _ payload => payload.length ≤ payloadLimit
  | .stamp _ payload => payload.length ≤ payloadLimit
  | .event payload => payload.length ≤ payloadLimit
  | .pkgCue _ cue => cue.fits
  | .unknownCommandType type => !namesCommand type
  | _ => true

end Sys2Proof
end

