-- ==== Sys2Proof/Machine/Operands.lean ====
section
/-! DEFINITION. The operands of commands: frames and payloads of spec/12 R184, the cleaning and repair of text and
fields on arrival (spec/02 R21 to R23, spec/08 R132, spec/09 R140), and frame labels (spec/01 R12). -/

namespace Sys2Proof.Machine

/-! ### The common frame (R184) -/

/-- One shift of the CRC-16 with the polynomial x^16 + x^12 + x^5 + 1, without reflection. -/
def crcShift (c : BitVec 16) : BitVec 16 := if c.msb then (c <<< 1) ^^^ 0x1021#16 else c <<< 1

/-- The CRC after one more byte. -/
def crcByte (c : BitVec 16) (b : Byte) : BitVec 16 :=
  let c0 := c ^^^ (b ++ 0#8)
  crcShift (crcShift (crcShift (crcShift (crcShift (crcShift (crcShift (crcShift c0)))))))

/-- The check value over the length, type and payload bytes, from an initial value of all ones. -/
def crc16 (bytes : List Byte) : BitVec 16 := bytes.foldl crcByte 0xFFFF#16

/-- The marker byte. -/
def frameMarker : Byte := 0xA5

/-- A 16-bit field from its two bytes, most significant first. -/
def be16 (hi lo : Byte) : BitVec 16 := hi ++ lo

/-- A 32-bit field from its four bytes, most significant first. -/
def be32 (b3 b2 b1 b0 : Byte) : BitVec 32 := (b3 ++ b2) ++ (b1 ++ b0)

/-- The two bytes of a 16-bit field, most significant first. -/
def bytes16 (v : BitVec 16) : List Byte := [v.extractLsb' 8 8, v.extractLsb' 0 8]

/-- A frame as it leaves on a link. -/
def buildFrame (type : Byte) (payload : List Byte) : List Byte :=
  let body := BitVec.ofNat 8 payload.length :: type :: payload
  frameMarker :: body ++ bytes16 (crc16 body)

/-- What a receiver makes of the bytes on its line: no marker among them; a frame that fails its length or its check,
with its type byte if that arrived and the bytes behind its marker; or a valid frame and the bytes behind it. -/
inductive FrameRead where
  | noMarker
  | failed (type : Option Byte) (rest : List Byte)
  | frame (type : Byte) (payload : List Byte) (rest : List Byte)
  deriving DecidableEq, Repr

/-- Reads the frame behind a marker: it fails on a length above the link's limit, on missing bytes, and on a check
value that disagrees. -/
def readBody (limit : Nat) (after : List Byte) : FrameRead :=
  match after with
  | len :: type :: more =>
    let n := len.toNat
    let payload := more.take n
    match more.drop n with
    | hi :: lo :: rest =>
      if limit < n then .failed (some type) after
      else if crc16 (len :: type :: payload) = be16 hi lo then .frame type payload rest
      else .failed (some type) after
    | _ => .failed (some type) after
  | _ => .failed none after

/-- Reads the first frame of a stretch of line: bytes before the first marker are ignored. -/
def readFrame (limit : Nat) (line : List Byte) : FrameRead :=
  match line.dropWhile (· != frameMarker) with
  | [] => .noMarker
  | _ :: after => readBody limit after

/-- Every frame of a stretch of line. After a failure the search goes on behind the failed frame's marker. -/
def readFrames (limit : Nat) : Nat → List Byte → List FrameRead
  | 0, _ => []
  | fuel + 1, line =>
    match readFrame limit line with
    | .noMarker => []
    | .failed t rest => .failed t rest :: readFrames limit fuel rest
    | .frame t p rest => .frame t p rest :: readFrames limit fuel rest

/-- The messages a contributor link carries to the part (spec/12, Message types). -/
inductive ContributorType where
  | word
  | stamp
  | retract
  | take
  | release
  | pkgOpen
  | pkgCue
  | pkgClose
  | pkgDrop
  deriving DecidableEq, Repr

/-- The type codes of contributor messages (spec/12, Message types). -/
def contributorType (b : Byte) : Option ContributorType :=
  match b.toNat with
  | 0x01 => some .word
  | 0x02 => some .stamp
  | 0x03 => some .retract
  | 0x04 => some .take
  | 0x05 => some .release
  | 0x10 => some .pkgOpen
  | 0x11 => some .pkgCue
  | 0x12 => some .pkgClose
  | 0x13 => some .pkgDrop
  | _ => none

/-- The kind of port that accepts a message (the table of spec/02 R17). -/
def ContributorType.acceptedOn (t : ContributorType) (k : PortKind) : Bool :=
  match t, k with
  | .word, .writer => true
  | .stamp, .writer => true
  | .retract, .writer => true
  | .take, .writer => true
  | .release, .writer => true
  | .pkgOpen, .script => true
  | .pkgCue, .script => true
  | .pkgClose, .script => true
  | .pkgDrop, .script => true
  | _, _ => false

/-- A payload that is surely shorter than its type's fixed fields (R184). WORD and STAMP have a layout; of the others
only an empty payload is known to be too short, and TAKE and RELEASE carry no fields (log 31). -/
def ContributorType.tooShort (t : ContributorType) (payload : List Byte) : Bool :=
  match t with
  | .word => payload.length < 5
  | .stamp => payload.length != 4
  | .take => false
  | .release => false
  | _ => payload.isEmpty

/-! ### Text (spec/02 R21, R23) -/

/-- Removes every character with a code below 0x20. -/
def cleanText (t : Text) : Text := t.filter (fun c => 0x20 ≤ c.toNat)

/-- The longest text of a word. -/
def wordLimit : Nat := 31

/-- The longest row of a prepared cue. -/
def rowLimit : Nat := 42

/-- The fields of a WORD payload (spec/12, WORD and STAMP): stroke tick, sentence end, speaker change, text. -/
def readWord (payload : List Byte) : Option (BitVec 32 × Bool × Bool × Text) :=
  match payload with
  | b3 :: b2 :: b1 :: b0 :: flags :: text => some (be32 b3 b2 b1 b0, flags.getLsbD 0, flags.getLsbD 1, text)
  | _ => none

/-- The tick of a STAMP payload, which is 4 bytes (spec/02 R24). -/
def readStamp (payload : List Byte) : Option (BitVec 32) :=
  match payload with
  | [b3, b2, b1, b0] => some (be32 b3 b2 b1 b0)
  | _ => none

/-- A value brought into a range. -/
def clampTo (lo hi v : Nat) : Nat := max lo (min hi v)

/-- The repairs of a PKG-CUE (R23); none when no row remains. -/
def repairPkgCue (c : PkgCueFields) : Option PreparedCue :=
  let r1 := (cleanText c.row1).take rowLimit
  let r2 := (cleanText (c.row2.getD [])).take rowLimit
  let offset := min 600000 c.offset
  let duration := clampTo 500 10000 c.duration
  if r1 ≠ [] then some ⟨offset, duration, r1, if r2 = [] then none else some r2, c.speaker⟩
  else if r2 ≠ [] then some ⟨offset, duration, r2, none, c.speaker⟩
  else none

/-! ### Frame labels (spec/01 R12) -/

/-- Every field of the label lies in its range at the frame rate. -/
def labelInRange (l : Label) (r : Rate) : Bool :=
  l.hours < 24 && l.minutes < 60 && l.seconds < 60 && l.frames < r.fps

/-- Frames of one day. -/
def Rate.framesPerDay (r : Rate) : Nat := 86400 * r.fps

/-- The frame-of-day of a label. -/
def labelFrame (l : Label) (r : Rate) : Nat :=
  ((l.hours * 60 + l.minutes) * 60 + l.seconds) * r.fps + l.frames

/-- The label of a frame-of-day, without the drop-frame flag (the anchor's label, R11). -/
def labelOfFrame (n : Nat) (r : Rate) : Label :=
  let sec := n / r.fps
  ⟨sec / 3600, sec / 60 % 60, sec % 60, n % r.fps, false⟩

/-- A difference of two frames-of-day reduced into [−43 200F, 43 200F). -/
def dayDifference (r : Rate) (a b : Nat) : Int :=
  let half : Int := 43200 * r.fps
  ((a : Int) - (b : Int) + half) % (2 * half) - half

/-! ### The automation EVENT (spec/09 R139, R140; layout spec/12) -/

/-- The rows of a strap as repaired: each clamped into 1..15, then exchanged if r1 is greater (spec/08 R132). -/
def repairStrap (r1 r2 : Nat) : Strap :=
  let a := clampTo 1 15 r1
  let b := clampTo 1 15 r2
  if b < a then ⟨b, a⟩ else ⟨a, b⟩

/-- A payload after its repair, and whether the repair changed anything. -/
structure RepairedBody where
  body : EventBody
  changed : Bool
  deriving DecidableEq, Repr

/-- The payload of an EVENT of a kind, from byte 9 on, repaired; none when it cannot be (tests 1 and 2 of R140). -/
def readEventBody (kind : Byte) (rest : List Byte) : Option RepairedBody :=
  match kind.toNat, rest with
  | 1, k :: hi :: lo :: _ =>
    match k.toNat with
    | 1 => some ⟨.segment .live, false⟩
    | 2 => if be16 hi lo = 0 then none else some ⟨.segment (.package (be16 hi lo)), false⟩
    | 3 => some ⟨.segment .brk, false⟩
    | _ => none
  | 2, slot :: st :: r1 :: r2 :: _ =>
    if h : slot.toNat < 4 then
      match st.toNat with
      | 0 => some ⟨.strap ⟨slot.toNat, h⟩ none, false⟩
      | 1 =>
        let rows := repairStrap r1.toNat r2.toNat
        some ⟨.strap ⟨slot.toNat, h⟩ (some rows), rows != ⟨r1.toNat, r2.toNat⟩⟩
      | _ => none
    else none
  | 3, g :: _ =>
    if h : g.toNat < 4 then some ⟨.route (some ⟨g.toNat, h⟩), false⟩
    else if g = 0xFF then some ⟨.route none, false⟩
    else none
  | 4, hi :: lo :: _ =>
    let d := (be16 hi lo).toNat
    some ⟨.delay (min 12000 d), 12000 < d⟩
  | _, _ => none

/-- An EVENT as read: its service, its label and its payload after repair. -/
structure EventFields where
  service : Service
  label : Label
  body : EventBody
  changed : Bool
  deriving DecidableEq, Repr

/-- The tag of an EVENT payload, 0 when the payload does not hold it (R184). -/
def readEventTag (payload : List Byte) : BitVec 16 :=
  match payload with
  | hi :: lo :: _ => be16 hi lo
  | _ => 0

/-- The fields of an EVENT payload; none when its kind, service or payload is out of range or too short. -/
def readEvent (payload : List Byte) : Option EventFields :=
  match payload with
  | _ :: _ :: kind :: svc :: h :: m :: sec :: f :: flags :: rest =>
    if hk : svc.toNat < 4 then
      (readEventBody kind rest).map fun b =>
        ⟨⟨svc.toNat, hk⟩, ⟨h.toNat, m.toNat, sec.toNat, f.toNat, flags.getLsbD 0⟩, b.body, b.changed⟩
    else none
  | _ => none

end Sys2Proof.Machine
end

