-- ==== Sys2Proof/Machine/Flags.lean ====
section
/-! DEFINITION. Quality counters and alert flags (spec/11): an occurrence offered to the counters, the additions and
their saturation, the samples of levels, the alert flags and the attention line. -/

namespace Sys2Proof.Machine

/-! ### Alerts (R172 to R174) -/

/-- The eight alerts in the order of R172's table. -/
inductive Alert where
  | refLost
  | refLocked
  | linkLost
  | intakeOverflow
  | cueOverflow
  | packageFailed
  | outputStalled
  | counterSaturated
  deriving DecidableEq, Repr

/-- The place of an alert in the table. -/
def Alert.index : Alert → Fin 8
  | .refLost => 0
  | .refLocked => 1
  | .linkLost => 2
  | .intakeOverflow => 3
  | .cueOverflow => 4
  | .packageFailed => 5
  | .outputStalled => 6
  | .counterSaturated => 7

/-- A service as a source of an alert. -/
def serviceSource (k : Service) : Fin 8 := ⟨k.val, Nat.lt_of_lt_of_le k.isLt (by decide)⟩

/-- An alert set at a source, or at none. -/
def AlertState.set (a : AlertState) (source : Option (Fin 8)) : AlertState :=
  match source with
  | none => { a with flag := true }
  | some i => { a with flag := true, sources := a.sources.set i true }

/-- An alert cleared (R173). -/
def AlertState.cleared (a : AlertState) : AlertState := { a with flag := false, sources := Per8.all false }

/-- Sets an alert flag and gathers its source (R172). -/
def State.setAlert (s : State) (a : Alert) (source : Option (Fin 8)) : State :=
  { s with alerts := s.alerts.set a.index ((s.alerts.get a.index).set source) }

/-- The attention line (R174): asserted while a flag is set whose enable is set. -/
def State.attention (s : State) : Bool :=
  allPorts.any fun i => (s.alerts.get i).flag && (s.alerts.get i).enable

/-! ### Counters (R166 to R170) -/

/-- One occurrence of a count or value event, with its attributes; `figure` is what LATENESS_MS carries. -/
structure Occurrence where
  event : EventKind
  port : Option Port
  service : Option Service
  cause : Option Cause
  figure : Nat
  deriving DecidableEq, Repr

/-- A count event without attributes. -/
def plainEvent (e : EventKind) : Occurrence := ⟨e, none, none, none, 0⟩

/-- A count event with a port attribute. -/
def portEvent (e : EventKind) (p : Port) : Occurrence := ⟨e, some p, none, none, 0⟩

/-- A count event with a service attribute. -/
def serviceEvent (e : EventKind) (k : Service) : Occurrence := ⟨e, none, some k, none, 0⟩

/-- A WORD_DROPPED with its cause and port. -/
def wordDrop (c : Cause) (p : Port) : Occurrence := ⟨.wordDropped, some p, none, some c, 0⟩

/-- Membership in a set of causes. -/
def hasCause (m : CauseSet) : Cause → Bool
  | .notOnAir => m.notOnAir
  | .cutBefore => m.cutBefore
  | .cutAfter => m.cutAfter
  | .segment => m.segment
  | .noRoute => m.noRoute
  | .empty => m.empty
  | .overflow => m.overflow

/-- The limit of a counter's value (R166). -/
def counterMax : Nat := 4294967295

/-- The tests by which a counter takes an occurrence (R167). An attribute the occurrence lacks passes its test. -/
def Counter.takes (c : Counter) (o : Occurrence) : Bool :=
  c.event == some o.event
    && (match o.service with | none => true | some k => c.services.get k)
    && (match o.port with | none => true | some p => c.ports.get p)
    && (match o.cause with | none => true | some x => hasCause c.causes x)

/-- What a threshold makes of a figure or a level: the figure itself at threshold 0, and otherwise 1 when the figure
is at or above the threshold (R168, R169). -/
def Counter.measure (c : Counter) (figure : Nat) : Nat :=
  if c.threshold = 0 then figure else if c.threshold ≤ figure then 1 else 0

/-- What an occurrence adds to a counter that takes it (R168). -/
def Counter.amount (c : Counter) (o : Occurrence) : Nat :=
  if o.event = .latenessMs then c.measure o.figure else 1

/-- An addition to a counter (R170). -/
def Counter.add (c : Counter) (n : Nat) : Counter :=
  if c.saturated || n == 0 then c
  else if counterMax ≤ c.value + n then { c with value := counterMax, saturated := true }
  else { c with value := c.value + n }

/-- An addition to counter `i`; the alert COUNTER_SATURATED is set when its flag goes from clear to set (R170). -/
def State.addTo (s : State) (i : Fin 8) (n : Nat) : State :=
  let c := s.counters.get i
  let c' := c.add n
  let s' := { s with counters := s.counters.set i c' }
  if c'.saturated && !c.saturated then s'.setAlert .counterSaturated (some i) else s'

/-- One occurrence offered to one counter. -/
def State.offer (o : Occurrence) (s : State) (i : Fin 8) : State :=
  if (s.counters.get i).takes o then s.addTo i ((s.counters.get i).amount o) else s

/-- Raises an event: the occurrence is offered to each counter, in the order of their numbers (R167). -/
def State.raise (s : State) (o : Occurrence) : State := allPorts.foldl (State.offer o) s

/-- Raises an event a number of times. -/
def State.raiseTimes (s : State) (o : Occurrence) : Nat → State
  | 0 => s
  | n + 1 => (s.raise o).raiseTimes o n

/-! ### Levels (R169) -/

/-- The level FRAMES_CATCHUP of a service (spec/05 R90); 0 for a disabled service. -/
def State.catchupLevel (s : State) (k : Service) : Nat :=
  if (s.services.get k).par.enabled && (s.services.get k).phase == .catchup then 1 else 0

/-- The level CUE_QUEUE_LEVEL of a service (spec/06 R102); 0 for a disabled service and in CONFIG. -/
def State.queueLevel (s : State) (k : Service) : Nat :=
  if (s.services.get k).par.enabled && s.mode == .run then (s.services.get k).queue.length else 0

/-- The level INTAKE_LEVEL of a port (spec/02 R27); 0 for an UNUSED port and in CONFIG. -/
def State.intakeLevel (s : State) (p : Port) : Nat :=
  if (s.ports.get p).par.kind != .unused && s.mode == .run then (s.ports.get p).queue.length else 0

/-- The samples a counter takes at a frame boundary: one for each attribute in its mask. -/
def State.samples (s : State) (c : Counter) : List Nat :=
  match c.event with
  | some .framesCatchup => (allServices.filter c.services.get).map s.catchupLevel
  | some .cueQueueLevel => (allServices.filter c.services.get).map s.queueLevel
  | some .intakeLevel => (allPorts.filter c.ports.get).map s.intakeLevel
  | _ => []

/-- The samples of one counter, each added according to its threshold. -/
def State.sampleCounter (s : State) (i : Fin 8) : State :=
  (s.samples (s.counters.get i)).foldl (fun t level => t.addTo i ((s.counters.get i).measure level)) s

/-- The samples of every counter at a frame boundary. -/
def State.sampleLevels (s : State) : State := allPorts.foldl State.sampleCounter s

/-! ### The station controller's commands on counters and alerts (R171, R173, R174) -/

/-- The event of a selector: absent for NONE, and no event at all when it names none of the table. -/
def selectedEvent : EventSelector → Option (Option EventKind)
  | .noEvent => some none
  | .event e => some (some e)
  | .outsideTable => none

/-- A counter with its value and flag cleared (R171). -/
def Counter.clear (c : Counter) : Counter := { c with value := 0, saturated := false }

/-- The members of a mask field; none for a value outside its range. -/
def maskMembers {α : Type} : MaskField α → Option α
  | .members set => some set
  | .outsideRange => none

/-- The counter that a select makes, with its value and flag cleared; none when some field lies outside its range
(R171). -/
def Counter.select? (f : SelectionFields) : Option Counter :=
  match selectedEvent f.event, maskMembers f.causes, maskMembers f.services, maskMembers f.ports with
  | some event, some causes, some services, some ports =>
    if counterMax < f.threshold then none else some ⟨event, causes, services, ports, f.threshold, 0, false⟩
  | _, _, _, _ => none

/-- The marked alerts cleared (R173). -/
def clearMarked (as : Per8 AlertState) (marks : Per8 Bool) : Per8 AlertState :=
  Per8.tabulate fun i => if marks.get i then (as.get i).cleared else as.get i

/-- All eight enables replaced (R173). -/
def enableMarked (as : Per8 AlertState) (marks : Per8 Bool) : Per8 AlertState :=
  Per8.tabulate fun i => { as.get i with enable := marks.get i }

/-- The named counters cleared (R171, Read). -/
def clearNamed (cs : Per8 Counter) (named : Per8 Bool) : Per8 Counter :=
  Per8.tabulate fun i => if named.get i then (cs.get i).clear else cs.get i

end Sys2Proof.Machine
end

