-- ==== Sys2Proof/Machine/Ops.lean ====
section
/-! DEFINITION. The named operations on the state that every block uses: reading and replacing a port, a group or a
service; sending a message; capacities, pauses and the package table; and the states of placements. -/

namespace Sys2Proof.Machine

/-! ### Reading and replacing -/

/-- The current SMC, the SMC of the last boundary made (spec/01 R1). -/
def State.now (s : State) : Smc := s.ref.smc

/-- Port `p`. -/
def State.port (s : State) (p : Port) : PortState := s.ports.get p

/-- Group `g`. -/
def State.group (s : State) (g : Group) : GroupState := s.groups.get g

/-- Service `k`. -/
def State.service (s : State) (k : Service) : ServiceState := s.services.get k

/-- The state with port `p` replaced. -/
def State.setPort (s : State) (p : Port) (x : PortState) : State := { s with ports := s.ports.set p x }

/-- The state with group `g` replaced. -/
def State.setGroup (s : State) (g : Group) (x : GroupState) : State := { s with groups := s.groups.set g x }

/-- The state with service `k` replaced. -/
def State.setService (s : State) (k : Service) (x : ServiceState) : State :=
  { s with services := s.services.set k x }

/-- The state with the package table replaced. -/
def State.setPackages (s : State) (t : List (Option PackageRecord)) : State := { s with packages := t }

/-- The part is in RUN. -/
def State.running (s : State) : Bool := s.mode == .run

/-! ### Sending -/

/-- Sends a message on a contributor link (spec/02 R35). -/
def State.sendPort (s : State) (p : Port) (m : PortMsg) : State :=
  { s with sent := { s.sent with ports := s.sent.ports.set p (s.sent.ports.get p ++ [m]) } }

/-- Sends an answer on the automation link (spec/09 R139). -/
def State.sendAnswer (s : State) (a : Answer) : State :=
  { s with sent := { s.sent with automation := s.sent.automation ++ [a] } }

/-- Sends a message on the output link (spec/07 R128). -/
def State.sendOutput (s : State) (m : OutputMsg) : State :=
  { s with sent := { s.sent with output := s.sent.output ++ [m] } }

/-- The number of samples a STATE message reports: 0 for a SCRIPT port (spec/02 R35). -/
def PortState.samples (x : PortState) : Nat := if x.par.kind = .writer then x.window.length else 0

/-- Puts a port into a state and sends the STATE message that names it (spec/02 R35). -/
def State.enterLink (s : State) (p : Port) (l : LinkState) : State :=
  (s.setPort p { s.port p with link := l }).sendPort p (.state l (s.port p).samples)

/-! ### Capacities and pauses -/

/-- The capacity of a region: 64 records for each block (spec/06 R97). -/
def Region.capacity (r : Region) : Nat := 64 * r.count

/-- The region in force of port `p`. -/
def State.portRegion (s : State) (p : Port) : Option Region := s.layout.bind fun l => l.ports.get p

/-- The capacity of a port's intake queue (spec/02 R27). -/
def State.intakeCapacity (s : State) (p : Port) : Nat := ((s.portRegion p).map Region.capacity).getD 0

/-- The capacity of a service's cue queue (spec/06 R102). -/
def State.queueCapacity (s : State) (k : Service) : Nat :=
  ((s.layout.bind fun l => l.services.get k).map Region.capacity).getD 0

/-- The capacity of the pool (spec/10 R154). -/
def State.poolCapacity (s : State) : Nat := ((s.layout.bind fun l => l.pool).map Region.capacity).getD 0

/-- The package records of the table. -/
def State.packageRecords (s : State) : List PackageRecord := s.packages.filterMap id

/-- The pool slots in use (spec/10 R154). -/
def poolUse (t : List (Option PackageRecord)) : Nat := ((t.filterMap id).map fun r => r.cues.length).sum

/-- The record of a package id, if the table holds it. -/
def State.findPackage (s : State) (id : PackageId) : Option PackageRecord :=
  s.packageRecords.find? fun r => r.id == id

/-- The service plays the package: its play pointer names it (spec/10 R162, R164). -/
def State.plays (s : State) (k : Service) (id : PackageId) : Bool :=
  match (s.service k).pointer with
  | none => false
  | some q => q.package == id

/-- The playing-on set of a package (spec/10 R154). -/
def State.playingOn (s : State) (id : PackageId) : Per4 Bool := Per4.tabulate fun k => s.plays k id

/-- A package is playing while its playing-on set is not empty (spec/10 R154). -/
def State.isPlaying (s : State) (id : PackageId) : Bool := allServices.any fun k => s.plays k id

/-- The two pauses of an intake queue (spec/02 R29): a WRITER port that is TAKING; a SCRIPT port whose head is a
PKG-OPEN naming a package that is playing. -/
def State.paused (s : State) (p : Port) : Bool :=
  (s.port p).link == .taking
    || (match (s.port p).queue.head? with
        | some (.pkgOpen id _) => s.isPlaying id
        | _ => false)

/-- The offset estimate: the smallest sample of the window (spec/02 R25). -/
def estimate (window : List Int) : Option Int := window.min?

/-- The members of a group: the WRITER ports whose port group names it (spec/03 R37). -/
def State.members (s : State) (g : Group) : List Port :=
  allPorts.filter fun p => (s.port p).par.kind == .writer && (s.port p).par.group == some g

/-- The newest `n` of a list held oldest first. -/
def keepNewest {α : Type} (n : Nat) (l : List α) : List α := l.drop (l.length - n)

/-! ### The package table -/

/-- The table with the record of an id replaced. -/
def replacePackage (t : List (Option PackageRecord)) (id : PackageId) (r : Option PackageRecord) :
    List (Option PackageRecord) :=
  t.map fun o => match o with
    | none => none
    | some x => if x.id = id then r else some x

/-- The table with a record in its lowest-numbered EMPTY slot; none when no slot is EMPTY. -/
def insertPackage (r : PackageRecord) : List (Option PackageRecord) → Option (List (Option PackageRecord))
  | [] => none
  | none :: t => some (some r :: t)
  | some x :: t => (insertPackage r t).map (some x :: ·)

/-! ### Placements (spec/04 R68) -/

/-- The placement names the cue and can still follow it: a COMMITTED or GONE placement keeps its state. -/
def Placement.follows (pl : Placement) (k : Service) (id : CueId) : Bool :=
  pl.service == k && pl.cue == id && pl.state == .amendable

/-- Every placement of every history replaced by its image. -/
def State.mapPlacements (s : State) (f : Placement → Placement) : State :=
  { s with ports := s.ports.map fun x => { x with history := x.history.map fun e => e.map f } }

/-- Every placement that names the cue takes a state. -/
def State.markCue (s : State) (k : Service) (id : CueId) (st : PlacementState) : State :=
  s.mapPlacements fun pl => if pl.follows k id then { pl with state := st } else pl

end Sys2Proof.Machine
end

