-- ==== Sys2Proof/Machine/Cues.lean ====
section
/-! DEFINITION. The text of a live cue: its row lengths, the fit rule (spec/04 R60), the reflow after a removal (R69)
and the removal of a word from an open or a queued cue (R70, R71), with the reading time (spec/05 R82). -/

namespace Sys2Proof.Machine

/-- A row's length: the characters of its words plus one space between each pair of neighbours (R57). -/
def rowLength (ws : List PlacedWord) : Nat := (ws.map fun w => w.text.length).sum + (ws.length - 1)

/-- The text of a row: its words with single spaces between them. -/
def rowText (ws : List PlacedWord) : Text := ([0x20#8] : Text).intercalate (ws.map PlacedWord.text)

/-- The character count n of a cue (R57). -/
def CueBody.count (b : CueBody) : Nat := rowLength b.row1 + rowLength b.row2

/-- The words of a cue in reading order. -/
def CueBody.words (b : CueBody) : List PlacedWord := b.row1 ++ b.row2

/-- The anchor A: the speech estimate of the first word (R57, spec/05 R81). -/
def CueBody.anchor (b : CueBody) : Smc := (b.words.head?.map PlacedWord.speech).getD 0

/-- The TRUNCATED flag: some word carries a truncated mark (R65, R71). -/
def CueBody.truncated (b : CueBody) : Bool := b.words.any PlacedWord.truncated

/-- The number of rows the cue has. -/
def CueBody.height (b : CueBody) : Nat := if b.row2 = [] then 1 else 2

/-- Where a word goes (R60). -/
inductive Fit where
  | row1
  | row2
  | overflow
  deriving DecidableEq, Repr

/-- The fit rule for a word of length `m` (R60). -/
def CueBody.fit (b : CueBody) (m : Nat) : Fit :=
  if b.row1 = [] then .row1
  else if b.row2 = [] then
    if rowLength b.row1 + 1 + m ≤ b.width then .row1
    else if b.formedRows = 2 then .row2
    else .overflow
  else if rowLength b.row2 + 1 + m ≤ b.width then .row2
  else .overflow

/-- A word put at the end of a row. A word that no row takes never reaches this operation but in a reflow, which R69
shows not to overflow; it would join row 2. -/
def CueBody.put (b : CueBody) (f : Fit) (w : PlacedWord) : CueBody :=
  match f with
  | .row1 => { b with row1 := b.row1 ++ [w] }
  | .row2 => { b with row2 := b.row2 ++ [w] }
  | .overflow => { b with row2 := b.row2 ++ [w] }

/-- A word cut to the first `w` characters, with its truncated mark set if that cut it (R60). -/
def PlacedWord.cutTo (x : PlacedWord) (w : Nat) : PlacedWord :=
  { x with text := x.text.take w, truncated := x.truncated || decide (w < x.text.length) }

/-- The rows rebuilt from words in reading order by the fit rule, starting from an empty row 1 (R69). -/
def CueBody.reflow (b : CueBody) (ws : List PlacedWord) : CueBody :=
  ws.foldl (fun c w => c.put (c.fit w.text.length) w) { b with row1 := [], row2 := [] }

/-- The place of a word in reading order, from its row and position. -/
def CueBody.flatIndex (b : CueBody) (row pos : Nat) : Nat :=
  if row = 1 then pos - 1 else b.row1.length + (pos - 1)

/-- The cue without the word at a place in reading order, reflowed (R69). -/
def CueBody.remove (b : CueBody) (i : Nat) : CueBody := b.reflow (b.words.eraseIdx i)

/-- A placement brought up to date with the rows rebuilt after the removal of word `i` (R69). -/
def Placement.renumber (pl : Placement) (before after : CueBody) (i : Nat) : Placement :=
  let j := before.flatIndex pl.row pl.pos
  let j' := if i < j then j - 1 else j
  if j' < after.row1.length then { pl with row := 1, pos := j' + 1 }
  else { pl with row := 2, pos := j' - after.row1.length + 1 }

/-- Every placement that names the cue brought up to date (R69). -/
def State.renumberCue (s : State) (k : Service) (before after : CueBody) (i : Nat) : State :=
  s.mapPlacements fun pl => if pl.follows k before.id then pl.renumber before after i else pl

/-- The reading time d (spec/05 R82): the rate time ⌈n × 1000 / R⌉ raised to M and then lowered to X. -/
def readingTime (par : ServiceParams) (n : Nat) : Nat :=
  min (max ((n * 1000 + par.readingRate - 1) / par.readingRate) par.minReading) par.maxHold

/-- The open cue without its word `i` (R70): absent when no word remains. -/
def OpenCue.without (o : OpenCue) (i : Nat) : Option OpenCue :=
  let b := o.body.remove i
  if b.words = [] then none else some { o with body := b }

/-- A queued cue without its word `i` (R71): its d is recomputed; it leaves the queue when no word remains. -/
def CueRecord.without (par : ServiceParams) (c : CueRecord) (i : Nat) : Option CueRecord :=
  let b := c.body.remove i
  if b.words = [] then none else some { c with body := b, reading := readingTime par b.count }

/-- The cue queue with one cue shortened by its word `i`. -/
def queueWithout (par : ServiceParams) (q : List CueRecord) (id : CueId) (i : Nat) : List CueRecord :=
  q.filterMap fun c => if c.body.id = id then c.without par i else some c

/-- The cue that an amendable placement names: the open cue of its service, or a cue of its queue. -/
def ServiceState.amendableCue (v : ServiceState) (id : CueId) : Option CueBody :=
  match v.openCue with
  | some o => if o.body.id = id then some o.body else (v.queue.find? fun c => c.body.id == id).map CueRecord.body
  | none => (v.queue.find? fun c => c.body.id == id).map CueRecord.body

/-- The service with word `i` of the cue `id` removed from its open cue or its queue (R70, R71). -/
def ServiceState.removeWord (v : ServiceState) (id : CueId) (i : Nat) : ServiceState :=
  match v.openCue with
  | some o =>
    if o.body.id = id then { v with openCue := o.without i }
    else { v with queue := queueWithout v.par v.queue id i }
  | none => { v with queue := queueWithout v.par v.queue id i }

/-- Removes the word an amendable placement names from its cue (R69 to R71). -/
def State.removePlaced (s : State) (pl : Placement) : State :=
  match (s.service pl.service).amendableCue pl.cue with
  | none => s
  | some b =>
    let i := b.flatIndex pl.row pl.pos
    (s.setService pl.service ((s.service pl.service).removeWord pl.cue i)).renumberCue pl.service b (b.remove i) i

end Sys2Proof.Machine
end

