-- ==== Sys2Proof/Machine/Timing.lean ====
section
/-! DEFINITION. The timing engine (spec/05 R77 to R96) and the insertion of a timed cue into its cue queue (spec/06
R103, R104): the close of an open cue as one operation. -/

namespace Sys2Proof.Machine

/-! ### The speech estimate (R79, R80) -/

/-- The raw estimate: stroke tick plus offset estimate minus listening lag, modulo 2^32 (R79). -/
def rawEstimate (tick : BitVec 32) (offset : Int) (lag : Nat) : Smc :=
  minus (tick + BitVec.ofInt 32 offset) lag

/-- The raw estimate is earlier than the arrival less 20 000 ms (R80). -/
def isStale (raw arrival : Smc) : Bool := earlier raw (minus arrival 20000)

/-- The estimate held within the 20 000 ms that end at the arrival (R80). -/
def clampEstimate (raw arrival : Smc) : Smc :=
  if later raw arrival then arrival
  else if isStale raw arrival then minus arrival 20000
  else raw

/-! ### The stages of a close -/

/-- The SHOWING record of a display, if there is one. -/
def Display.record? : Display → Option ShowRecord
  | .blank => none
  | .showing r => some r

/-- The reference time P′ and hold figure d′ of a committed cue (R84). -/
def CommittedSource.timing : CommittedSource → Smc × Nat
  | .live c => (c.present, c.reading)
  | .prepared c => (c.present, c.duration)

/-- The previous cue of a service, as its reference time P′ and hold figure d′ (R84): the tail of the queue, else the
committed cue, else the SHOWING cue. -/
def ServiceState.previous (v : ServiceState) : Option (Smc × Nat) :=
  match v.queue.getLast? with
  | some c => some (c.present, c.reading)
  | none =>
    match v.committed with
    | some c => some c.source.timing
    | none => v.display.record?.map fun r => (laterOf r.present r.shown, r.hold)

/-- The switch entry ends live material: its kind is PACKAGE or BREAK (R88). -/
def SwitchBody.leavesLive : SwitchBody → Bool
  | .brk => true
  | .package _ _ => true
  | _ => false

/-- The cut test (R88). -/
def ServiceState.cutTest (v : ServiceState) (present : Smc) : Bool :=
  (v.switches.any fun e => e.body.leavesLive && !later e.switch present)
    || (v.kindInForce != .live && !(v.switches.any fun e => e.body == .live && !later e.switch present))

/-- A closed cue as timed: its record, and whether the cut test discards it. -/
structure Timed where
  record : CueRecord
  cut : Bool
  deriving DecidableEq, Repr

/-- The target T0 = A + D − L (R83). -/
def ServiceState.target (v : ServiceState) (a : Smc) : Smc := minus (plus a v.par.delay) v.par.lead

/-- The hold h of a previous cue with hold figure `d` (R85). -/
def ServiceState.holdFor (v : ServiceState) (d : Nat) : Nat :=
  match v.phase with
  | .normal => d
  | .catchup => v.par.catchupFloor

/-- The hold limit P′ + h + G, if there is a previous cue (R85). -/
def ServiceState.holdLimit (v : ServiceState) : Option Smc :=
  v.previous.map fun (t, d) => plus (plus t (v.holdFor d)) v.par.gap

/-- The stages of R83 to R89 for a cue closed at `c`: target, close limit, hold limit, live boundary, snap, cut test
and lateness. -/
def timeCue (u : RefUnit) (v : ServiceState) (b : CueBody) (c : Smc) : Timed :=
  let t0 := v.target b.anchor
  let limit := plus c v.par.closeMargin
  let lateClose := later limit t0
  let t1 := laterOf t0 limit
  let held := match v.holdLimit with | none => false | some h => later h t1
  let t2 := match v.holdLimit with | none => t1 | some h => laterOf t1 h
  let t3 := match v.liveStart with | none => t2 | some bl => laterOf t2 bl
  let p := u.snap t3
  { record :=
      { body := b
        close := c
        reading := readingTime v.par b.count
        present := p
        lateness := elapsed (plus b.anchor v.par.delay) p
        lateClose := lateClose
        heldByPrevious := held }
    cut := v.cutTest p }

/-- The phase after the evaluation of a lateness (R89). -/
def nextPhase (ph : Phase) (lateLimit : Nat) (lateness : Int) : Phase :=
  match ph with
  | .normal => if (lateLimit : Int) < lateness then .catchup else .normal
  | .catchup => if lateness < (lateLimit / 2 : Nat) then .normal else .catchup

/-! ### Insertion and close -/

/-- Puts a cue at the tail of a service's cue queue; a full queue first skips its head (spec/06 R103, R104). -/
def State.insertCue (s : State) (k : Service) (c : CueRecord) : State :=
  let v := s.service k
  if v.queue.length < s.queueCapacity k then s.setService k { v with queue := v.queue ++ [c] }
  else
    match v.queue with
    | [] => s.setService k { v with queue := [c] }
    | h :: t =>
      (((s.setService k { v with queue := t ++ [c] }).markCue k h.body.id .gone).raise
        (serviceEvent .cueSkipped k)).setAlert .cueOverflow (some (serviceSource k))

/-- Raises an event when a condition holds. -/
def State.raiseIf (s : State) (b : Bool) (o : Occurrence) : State := if b then s.raise o else s

/-- The timing of the open cue of a service, were it closed now. -/
def State.timeOpen (s : State) (k : Service) : Option Timed :=
  (s.service k).openCue.map fun o => timeCue s.ref (s.service k) o.body s.now

/-- The open cue would be cut at its close. -/
def State.closeCuts (s : State) (k : Service) : Bool :=
  match s.timeOpen k with
  | none => false
  | some t => t.cut

/-- What becomes of a timed cue: cut (R88), or its lateness and phase recorded and the cue inserted (R89 to R91). -/
def State.settleTimed (s : State) (k : Service) (t : Timed) : State :=
  if t.cut then (s.markCue k t.record.body.id .gone).raise (serviceEvent .cueCut k)
  else
    let v := s.service k
    (s.setService k
      { v with
        lastLateness := some t.record.lateness
        phase := nextPhase v.phase v.par.lateLimit t.record.lateness }).insertCue k t.record

/-- Closes the open cue of a service with the current SMC as its close time (spec/04 R64, R65), and times it. A service
with no open cue is unaffected. -/
def State.closeCue (s : State) (k : Service) : State :=
  match s.timeOpen k with
  | none => s
  | some t =>
    let s1 := (s.setService k { s.service k with openCue := none }).raise (serviceEvent .cueClosed k)
    let s2 := s1.raiseIf t.record.lateClose (serviceEvent .cueLateClose k)
    let s3 := s2.raiseIf t.record.heldByPrevious (serviceEvent .cueHeld k)
    s3.settleTimed k t

/-- Closes the open cue of every service whose live route names the group (spec/04 R64, release and loss). -/
def State.closeRouted (s : State) (g : Group) : State :=
  allServices.foldl (fun t k => if (t.service k).liveRoute = some g then t.closeCue k else t) s

/-- Sets the live route of a service; a different value is a route change and closes the open cue (spec/03 R54). The
cue closes under the old route's service state, and fan-out then follows the new one. -/
def State.changeRoute (s : State) (k : Service) (g : Option Group) : State :=
  if (s.service k).liveRoute = g then s
  else
    let t := s.closeCue k
    t.setService k { t.service k with liveRoute := g }

end Sys2Proof.Machine
end

