-- ==== Sys2Proof/Machine/Assembly.lean ====
section
/-! DEFINITION. The cue assembler (spec/04): placing an admitted word, the retract history, and RETRACT. -/

namespace Sys2Proof.Machine

/-- An admitted word on its way into the cues: the placed word before any cut, and its two flags. -/
structure AdmittedWord where
  word : PlacedWord
  speakerChange : Bool
  sentenceEnd : Bool
  deriving DecidableEq, Repr

/-- A cue about to be opened for a service (R57, R58): the next id, the row width and rows per cue as they stand. -/
def ServiceState.newBody (v : ServiceState) (speaker : Bool) : CueBody where
  id := v.cueCounter + 1
  width := v.par.rowWidth
  formedRows := v.par.rowsPerCue
  row1 := []
  row2 := []
  speaker := speaker

/-- Opens a cue for a service: the counter advances, and the empty cue is handed on to be filled (R57, R59). -/
def State.openBody (s : State) (k : Service) (speaker : Bool) : State × CueBody :=
  (s.setService k { s.service k with cueCounter := (s.service k).cueCounter + 1 }, (s.service k).newBody speaker)

/-- The open cue's text, or that of a cue opened now (R59, step 2). -/
def State.openOrNew (s : State) (k : Service) (speaker : Bool) : State × CueBody :=
  match (s.service k).openCue with
  | some o => (s, o.body)
  | none => s.openBody k speaker

/-- The row and position where the last word of a cue rests after it was put by a fit. -/
def CueBody.restingPlace (b : CueBody) : Fit → Nat × Nat
  | .row1 => (1, b.row1.length)
  | .row2 => (2, b.row2.length)
  | .overflow => (2, b.row2.length)

/-- The test of R62 on a cue. -/
def CueBody.sentenceFull (b : CueBody) : Bool := b.width / 2 ≤ b.count

/-- Steps 4 and 5 of R59: the word is put in the cue, the idle deadline is set, and the sentence-end test is applied. -/
def State.putWord (s : State) (k : Service) (b : CueBody) (a : AdmittedWord) : State × Placement :=
  let f := b.fit a.word.text.length
  let b' := b.put f (a.word.cutTo b.width)
  let t := s.setService k
    { s.service k with openCue := some ⟨b', s.now, plus s.now (s.service k).par.idleClose⟩ }
  let place := b'.restingPlace f
  let closes := a.sentenceEnd && b'.sentenceFull
  (if closes then t.closeCue k else t,
    ⟨k, b'.id, place.1, place.2, if closes && t.closeCuts k then .gone else .amendable⟩)

/-- Places an admitted word in one service by the steps of R59, and gives the placement where it came to rest. -/
def State.placeIn (s : State) (k : Service) (a : AdmittedWord) : State × Placement :=
  let s1 := if a.speakerChange then s.closeCue k else s
  let ob := s1.openOrNew k a.speakerChange
  if ob.2.fit a.word.text.length = .overflow then
    let ob' := (ob.1.closeCue k).openBody k false
    ob'.1.putWord k ob'.2 a
  else ob.1.putWord k ob.2 a

/-- Places an admitted word in each service of a list, in order. -/
def State.placeAll (a : AdmittedWord) : List Service → State → State × HistoryEntry
  | [], s => (s, [])
  | k :: ks, s =>
    let r := s.placeIn k a
    let rest := State.placeAll a ks r.1
    (rest.1, r.2 :: rest.2)

/-- Joins an entry to the newest end of a port's retract history, which holds at most 8 (R67). -/
def State.joinHistory (s : State) (p : Port) (e : HistoryEntry) : State :=
  s.setPort p { s.port p with history := keepNewest 8 ((s.port p).history ++ [e]) }

/-- The cue assembler takes an admitted word with its list of services (R59, R67): an empty list reaches no service and
makes no entry. -/
def State.assemble (s : State) (p : Port) (a : AdmittedWord) (ks : List Service) : State :=
  match ks with
  | [] => s
  | _ =>
    let r := State.placeAll a ks s
    r.1.joinHistory p r.2

/-! ### RETRACT (R72, R73) -/

/-- Removes the word of an entry from the cue of every AMENDABLE placement; a GONE placement changes no cue (R72). -/
def State.withdraw (s : State) (e : HistoryEntry) : State :=
  e.foldl (fun t pl => if pl.state = .amendable then t.removePlaced pl else t) s

/-- What a RETRACT has done when it ends: words removed and the reason. -/
structure RetractEnd where
  state : State
  removed : Nat
  reason : RetractReason

/-- Works back through the port's history from its newest entry, for at most `k` words (R72). -/
def State.retractLoop (p : Port) : Nat → Nat → State → RetractEnd
  | 0, r, s => ⟨s, r, .none⟩
  | k + 1, r, s =>
    match (s.port p).history.getLast? with
    | none => ⟨s, r, .noHistory⟩
    | some e =>
      if e.any fun pl => pl.state == .committed then ⟨s, r, .tooLate⟩
      else
        State.retractLoop p k (r + 1)
          ((s.setPort p { s.port p with history := (s.port p).history.dropLast }).withdraw e)

/-- A RETRACT of `k` words: the removal, the answer and the event for each refused word (R72, R73). -/
def State.retractWords (s : State) (p : Port) (k : Nat) : State :=
  let r := State.retractLoop p k 0 s
  (r.state.sendPort p (.retractAnswer r.removed (k - r.removed) r.reason)).raiseTimes
    (portEvent .retractRefusedWords p) (k - r.removed)

end Sys2Proof.Machine
end

