-- ==== Sys2Proof/Machine/Relay.lean ====
section
/-! DEFINITION. The relay controller (spec/03): TAKE and RELEASE, the ends of a handover, the judging of a taken word,
fan-out, and what loss of a link does to a group. -/

namespace Sys2Proof.Machine

/-- Empties a port's retract history. -/
def State.clearHistory (s : State) (p : Port) : State := s.setPort p { s.port p with history := [] }

/-! ### TAKE (R39 to R42) -/

/-- The tests of R39 in their order. -/
def State.takeResult (s : State) (p : Port) : TakeResult :=
  match (s.port p).par.group with
  | none => .noGroup
  | some g =>
    match (s.port p).link with
    | .taking => .already
    | .onAir => .already
    | .yielding => .already
    | .ready => if (s.group g).taking.isSome then .busy else .granted
    | _ => .notReady

/-- The cut tick: C − o + λ on the port's own workstation clock, modulo 2^32 (R42). -/
def State.cutTick (s : State) (p : Port) (c : Smc) : BitVec 32 :=
  plus (c - BitVec.ofInt 32 ((estimate (s.port p).window).getD 0)) (s.port p).par.lag

/-- Sends a TAKE answer GRANTED with the cut tick. -/
def State.answerGranted (s : State) (p : Port) (c : Smc) : State :=
  s.sendPort p (.takeAnswer .granted (some (s.cutTick p c)))

/-- A TAKE granted to a group without an on-air port (R40). -/
def State.grantIdle (s : State) (p : Port) (g : Group) : State :=
  ((s.setGroup g { s.group g with onAir := some p, cut := some s.now, grant := some s.now }).answerGranted p
    s.now).enterLink p .onAir

/-- A TAKE granted to a group whose on-air port is `q`: a handover begins (R41). -/
def State.beginHandover (s : State) (p q : Port) (g : Group) : State :=
  (((s.setGroup g
    { s.group g with
      onAir := none
      taking := some p
      yielding := some q
      cut := some s.now
      grant := some s.now
      yieldDeadline := some (plus s.now (s.group g).yieldTimeout) }).answerGranted p s.now).enterLink p
    .taking).enterLink q .yielding

/-- A TAKE from a WRITER port is decided at its arrival (R39). -/
def State.decideTake (s : State) (p : Port) : State :=
  match s.takeResult p, (s.port p).par.group with
  | .granted, some g =>
    match (s.group g).onAir with
    | none => s.grantIdle p g
    | some q => s.beginHandover p q g
  | r, _ => s.sendPort p (.takeAnswer r none)

/-! ### The ends of a handover (R45, R49) -/

/-- Completion of the handover of a group, if one is in progress (R45). The yielder goes READY, unless its link is
being lost (R50), and its retract history is emptied. -/
def State.completeHandover (s : State) (g : Group) (yielderLost : Bool) : State :=
  match (s.group g).taking, (s.group g).yielding with
  | some p, some q =>
    let s1 := s.setGroup g
      { s.group g with onAir := some p, taking := none, yielding := none, yieldDeadline := none }
    let s2 := s1.enterLink p .onAir
    let s3 := if yielderLost then s2 else s2.enterLink q .ready
    (s3.clearHistory q).raise (portEvent .handover p)
  | _, _ => s

/-- Abort of a handover by loss of the taking port (R49). -/
def State.abortHandover (s : State) (g : Group) : State :=
  match (s.group g).yielding with
  | none => s
  | some q =>
    (s.setGroup g
      { s.group g with
        onAir := some q
        taking := none
        yielding := none
        yieldDeadline := none
        cut := none }).enterLink q .onAir

/-! ### RELEASE (R48) -/

/-- A RELEASE from the on-air port: the group goes idle and the open cues of its services close. -/
def State.releaseOnAir (s : State) (p : Port) (g : Group) : State :=
  (((s.setGroup g { s.group g with onAir := none }).closeRouted g).sendPort p (.releaseAnswer true)).enterLink p .ready

/-- A RELEASE from the yielding port completes the handover; the answer precedes the STATE message. -/
def State.releaseYielding (s : State) (p : Port) (g : Group) : State :=
  (s.sendPort p (.releaseAnswer true)).completeHandover g false

/-- A RELEASE from a WRITER port is decided at its arrival (R48). -/
def State.decideRelease (s : State) (p : Port) : State :=
  match (s.port p).link, (s.port p).par.group with
  | .onAir, some g => s.releaseOnAir p g
  | .yielding, some g => s.releaseYielding p g
  | _, _ => s.sendPort p (.releaseAnswer false)

/-! ### Loss of a link (R49 to R51) -/

/-- The lowest-numbered READY member of a group. -/
def State.readyMember (s : State) (g : Group) : Option Port :=
  (s.members g).find? fun p => (s.port p).link == .ready

/-- Loss of the on-air port, last heard at `heard` (R51). -/
def State.loseOnAir (s : State) (g : Group) (heard : Option Smc) : State :=
  match (if (s.group g).failover then s.readyMember g else none) with
  | some p =>
    let c := heard.getD s.now
    (((s.setGroup g { s.group g with onAir := some p, cut := some c, grant := some s.now }).answerGranted p
      c).enterLink p .onAir).raise (portEvent .failover p)
  | none => (s.setGroup g { s.group g with onAir := none }).closeRouted g

/-- What the relay controller does at the loss of a port's link, from the state the port held before it (R19). -/
def State.relayLoss (s : State) (p : Port) : State :=
  match (s.port p).link, (s.port p).par.group with
  | .taking, some g => s.abortHandover g
  | .yielding, some g => s.completeHandover g true
  | .onAir, some g => s.loseOnAir g (s.port p).lastHeard
  | _, _ => s

/-! ### Judging a taken word (R43, R44) and fan-out (R55) -/

/-- The segment in force for a service at a speech estimate is LIVE (R55). -/
def ServiceState.admits (v : ServiceState) (e : Smc) : Bool :=
  match v.lastChange with
  | some t => if earlier e t then v.segPrevious == .live else v.segCurrent == .live
  | none => v.segCurrent == .live

/-- The services whose live route names a group. -/
def State.routed (s : State) (g : Group) : List Service :=
  allServices.filter fun k => (s.service k).liveRoute == some g

/-- The events of fan-out for one routed service: WORD_ACCEPTED, or WORD_DROPPED with cause SEGMENT (R55). -/
def State.admitEvent (p : Port) (e : Smc) (s : State) (k : Service) : State :=
  if (s.service k).admits e then s.raise ⟨.wordAccepted, some p, some k, none, 0⟩
  else s.raise ⟨.wordDropped, some p, some k, some .segment, 0⟩

/-- Fan-out of an accepted word from a port of group `g` (R55). -/
def State.fanOut (s : State) (p : Port) (g : Group) (a : AdmittedWord) : State :=
  match s.routed g with
  | [] => s.raise (wordDrop .noRoute p)
  | ks =>
    (ks.foldl (State.admitEvent p a.word.speech) s).assemble p a
      (ks.filter fun k => (s.service k).admits a.word.speech)

/-- The raw speech estimate of a WORD record at its take (spec/05 R79). -/
def State.rawFor (s : State) (p : Port) (w : WordRecord) : Smc :=
  rawEstimate w.tick ((estimate (s.port p).window).getD 0) (s.port p).par.lag

/-- The speech estimate e of a WORD record at its take (spec/05 R79, R80). -/
def State.speechFor (s : State) (p : Port) (w : WordRecord) : Smc := clampEstimate (s.rawFor p w) w.arrival

/-- STALE_CLAMPED is raised when the estimate is clamped at its early end (spec/05 R80). -/
def State.staleEvent (s : State) (p : Port) (w : WordRecord) : State :=
  s.raiseIf (!later (s.rawFor p w) w.arrival && isStale (s.rawFor p w) w.arrival) (portEvent .staleClamped p)

/-- An accepted word goes on to fan-out. -/
def State.acceptWord (s : State) (p : Port) (g : Group) (w : WordRecord) (e : Smc) : State :=
  s.fanOut p g ⟨⟨w.text, p, e, w.truncated⟩, w.speakerChange, w.sentenceEnd⟩

/-- The side of the cut on which an estimate falls: earlier than C, when C is present. -/
def GroupState.beforeCut (g : GroupState) (e : Smc) : Bool :=
  match g.cut with
  | none => false
  | some c => earlier e c

/-- A word taken from an ON_AIR port (R43). -/
def State.judgeOnAir (s : State) (p : Port) (g : Group) (w : WordRecord) : State :=
  let e := s.speechFor p w
  let t := s.staleEvent p w
  if (s.group g).beforeCut e then t.raise (wordDrop .cutBefore p) else t.acceptWord p g w e

/-- A word taken from a YIELDING port (R43, R44): one that is not earlier than C completes the handover. -/
def State.judgeYielding (s : State) (p : Port) (g : Group) (w : WordRecord) : State :=
  let e := s.speechFor p w
  let t := s.staleEvent p w
  if (s.group g).beforeCut e then t.acceptWord p g w e
  else (t.raise (wordDrop .cutAfter p)).completeHandover g false

/-- A word is judged by its port's relay state at the moment of its take (R43). -/
def State.judgeWord (s : State) (p : Port) (w : WordRecord) : State :=
  match (s.port p).link, (s.port p).par.group with
  | .onAir, some g => s.judgeOnAir p g w
  | .yielding, some g => s.judgeYielding p g w
  | _, _ => s.raise (wordDrop .notOnAir p)

/-! ### Timers of a group -/

/-- The yield deadline has been reached (R47). -/
def State.yieldExpired (s : State) (g : Group) : Bool :=
  match (s.group g).yieldDeadline with
  | none => false
  | some d => reached s.now d

/-- Expiry of a group's yield deadline (R47). -/
def State.expireYield (s : State) (g : Group) : State :=
  if s.yieldExpired g then s.completeHandover g false else s

/-- C becomes absent once it lies 2^30 ms behind the SMC (R37). -/
def State.ageCut (s : State) (g : Group) : State :=
  match (s.group g).cut with
  | none => s
  | some c => if aged s.now c then s.setGroup g { s.group g with cut := none } else s

end Sys2Proof.Machine
end

