-- ==== Sys2Proof/Machine/Links.lean ====
section
/-! DEFINITION. The contributor links (spec/02): the receipt of frames, link refresh and loss, the offset window, the
pushes into intake queues and flow control; and the commands that arrive on a contributor link or expire for a port. -/

namespace Sys2Proof.Machine

/-! ### Frames and links (R17 to R20) -/

/-- A frame that fails its check or its length: LINK_ERRORS, and nothing else about the port (R17). An UNUSED port
counts nothing (R16). -/
def State.frameFails (s : State) (p : Port) : State :=
  if (s.port p).par.kind = .unused then s else s.raise (portEvent .linkErrors p)

/-- The state a link comes up in (R18). -/
def upState (k : PortKind) : LinkState := if k = .writer then .standby else .up

/-- The refresh of a link by a valid frame, which brings an OFFLINE link up (R18). -/
def State.refreshLink (s : State) (p : Port) : State :=
  let t := s.setPort p
    { s.port p with lastHeard := some s.now, silence := some (plus s.now s.silenceTimeout) }
  if (s.port p).link = .offline then t.enterLink p (upState (s.port p).par.kind) else t

/-- A valid frame on a port that can take one in RUN: the port is enabled. -/
def State.receives (s : State) (p : Port) : Bool := s.running && (s.port p).par.kind != .unused

/-- A message of a type, with `act` as its handling on a port that accepts it; `act` answers none for a message that
cannot be repaired (the table of R17). -/
def State.receive (s : State) (p : Port) (type : ContributorType) (act : State → Option State) : State :=
  if s.receives p then
    let t := s.refreshLink p
    if type.acceptedOn (s.port p).par.kind then (act t).getD (t.raise (portEvent .linkErrors p))
    else t.raise (portEvent .linkErrors p)
  else s

/-- A message with a payload of bytes: a payload above the limit is a frame that fails its length (R17, R184). -/
def State.receiveBytes (s : State) (p : Port) (type : ContributorType) (payload : List Byte)
    (act : State → Option State) : State :=
  if payloadLimit < payload.length then s.frameFails p else s.receive p type act

/-- The state of a port whose link is lost (R20). -/
def PortState.lost (x : PortState) : PortState :=
  { x with
    link := .offline
    lastHeard := none
    silence := none
    window := []
    history := []
    flow := .flowing
    refresh := none }

/-- Loss of a link: the relay controller acts for the group, then the port goes OFFLINE (R19, R20). -/
def State.loseLink (s : State) (p : Port) : State :=
  let t := s.relayLoss p
  (((t.setPort p (t.port p).lost).sendPort p (.state .offline 0)).raise (portEvent .linkLoss p)).setAlert .linkLost
    (some p)

/-- The silence deadline of a port has been reached (R19). -/
def State.silenceExpired (s : State) (p : Port) : Bool :=
  match (s.port p).silence with
  | none => false
  | some d => reached s.now d

/-- Expiry of a port's silence deadline (R19). -/
def State.expireSilence (s : State) (p : Port) : State := if s.silenceExpired p then s.loseLink p else s

/-! ### Intake queues and flow control (R27 to R34) -/

/-- The port is HELD and sends HOLD with its hold time; its refresh deadline lies half a hold time ahead, rounded down
(R31, R32). -/
def State.sendHold (s : State) (p : Port) : State :=
  ((s.setPort p
    { s.port p with flow := .held, refresh := some (plus s.now ((s.port p).par.holdTime / 2)) }).sendPort p
    (.hold (s.port p).par.holdTime)).raise (portEvent .holdSent p)

/-- A HELD port sends RESUME and flows again (R33, R34). -/
def State.sendResume (s : State) (p : Port) : State :=
  (s.setPort p { s.port p with flow := .flowing, refresh := none }).sendPort p .resume

/-- A push asks for HOLD: flow control is enabled, the port is FLOWING and its occupancy is at or above HW (R31). -/
def PortState.asksHold (x : PortState) : Bool :=
  x.par.flowControl && x.flow == .flowing &&
    (match x.marks with | none => false | some (hw, _) => hw ≤ x.queue.length)

/-- A removal asks for RESUME: the port is HELD and its occupancy is at or below LW (R33). -/
def PortState.asksResume (x : PortState) : Bool :=
  x.flow == .held && (match x.marks with | none => false | some (_, lw) => x.queue.length ≤ lw)

/-- The comparison after a push (R31). -/
def State.afterPush (s : State) (p : Port) : State := if (s.port p).asksHold then s.sendHold p else s

/-- The comparison after a removal (R33). -/
def State.afterRemoval (s : State) (p : Port) : State := if (s.port p).asksResume then s.sendResume p else s

/-- A record is a WORD. -/
def IntakeRecord.isWord : IntakeRecord → Bool
  | .word _ => true
  | _ => false

/-- Pushes a record into an intake queue; a full queue drops it (R27, R28, R31). -/
def State.push (s : State) (p : Port) (r : IntakeRecord) : State :=
  if (s.port p).queue.length < s.intakeCapacity p then
    (s.setPort p { s.port p with queue := (s.port p).queue ++ [r] }).afterPush p
  else (s.setAlert .intakeOverflow (some p)).raiseIf r.isWord (wordDrop .overflow p)

/-- The record the consumer can take now: the head of a queue that is not paused (R27, R29). -/
def State.nextRecord (s : State) (p : Port) : Option IntakeRecord :=
  if s.running && !s.paused p then (s.port p).queue.head? else none

/-- The head leaves the queue, and the removal is compared with LW (R27, R33). -/
def State.removeHead (s : State) (p : Port) : State :=
  (s.setPort p { s.port p with queue := (s.port p).queue.tail }).afterRemoval p

/-- The refresh deadline of a HELD port has been reached (R32). -/
def State.refreshExpired (s : State) (p : Port) : Bool :=
  match (s.port p).refresh with
  | none => false
  | some d => (s.port p).flow == .held && reached s.now d

/-- Expiry of a port's refresh deadline (R32). -/
def State.expireRefresh (s : State) (p : Port) : State := if s.refreshExpired p then s.sendHold p else s

/-! ### The messages of a WRITER port (R21 to R26) -/

/-- A WORD after its cleaning (R21): the text cut to 31 characters, WORD_TRUNCATED raised by the cut. -/
def State.pushWord (s : State) (p : Port) (tick : BitVec 32) (sentenceEnd speakerChange : Bool) (text : Text) : State :=
  let long := decide (wordLimit < text.length)
  (s.raiseIf long (portEvent .wordTruncated p)).push p
    (.word ⟨tick, s.now, sentenceEnd, speakerChange, text.take wordLimit, long⟩)

/-- The handling of a WORD payload (R21); none when it is shorter than its fixed fields. -/
def State.takeInWord (p : Port) (payload : List Byte) (s : State) : Option State :=
  (readWord payload).map fun (tick, sentenceEnd, speakerChange, raw) =>
    match cleanText raw with
    | [] => s.raise (wordDrop .empty p)
    | text => s.pushWord p tick sentenceEnd speakerChange text

/-- The handling of a RETRACT count (R22): 0 cannot be repaired, and a count above 8 is reduced to 8. -/
def State.takeInRetract (p : Port) (count : Nat) (s : State) : Option State :=
  if count = 0 then none else some (s.push p (.retract (min 8 count) s.now))

/-- The offset window after a sample joins (R24). -/
def joinWindow (w : List Int) (x : Int) : List Int := keepNewest 16 (w ++ [x])

/-- The sample of a STAMP: the arrival SMC minus the tick, read as signed (R24). -/
def stampSample (arrival : Smc) (tick : BitVec 32) : Int := (arrival - tick).toInt

/-- A sample joins a port's window, which may bring the port to READY (R24, R25). -/
def State.addSample (s : State) (p : Port) (x : Int) : State :=
  let t := s.setPort p { s.port p with window := joinWindow (s.port p).window x }
  if (s.port p).link = .standby ∧ 4 ≤ (joinWindow (s.port p).window x).length then t.enterLink p .ready else t

/-- The handling of a STAMP payload (R24); none when it is not 4 bytes. -/
def State.takeInStamp (p : Port) (payload : List Byte) (s : State) : Option State :=
  (readStamp payload).map fun tick => s.addSample p (stampSample s.now tick)

/-! ### The messages of a SCRIPT port (R23) -/

/-- The handling of a PKG-OPEN. -/
def State.takeInOpen (p : Port) (id : PackageId) (count : Nat) (s : State) : Option State :=
  if id = 0 ∨ count = 0 ∨ 255 < count then none else some (s.push p (.pkgOpen id count))

/-- The handling of a PKG-CUE. -/
def State.takeInCue (p : Port) (c : PkgCueFields) (s : State) : Option State :=
  (repairPkgCue c).map fun r => s.push p (.pkgCue r)

/-- The handling of a PKG-CLOSE. -/
def State.takeInClose (p : Port) (id : PackageId) (s : State) : Option State :=
  if id = 0 then none else some (s.push p (.pkgClose id))

/-- The handling of a PKG-DROP. -/
def State.takeInDrop (p : Port) (id : PackageId) (s : State) : Option State :=
  if id = 0 then none else some (s.push p (.pkgDrop id))

/-! ### Frames that no message row takes (R17) -/

/-- What a frame of the line is to a port of a kind: a message that a row of its own takes; a frame that fails; or a valid
frame whose message is unknown, not accepted on the kind, or too short to repair. -/
inductive FrameVerdict where
  | taken
  | fails
  | notTaken
  deriving DecidableEq, Repr

/-- The verdict on one frame of a contributor line (R17, R184). -/
def judgeFrame (kind : PortKind) (f : FrameRead) : FrameVerdict :=
  match f with
  | .noMarker => .taken
  | .failed _ _ => .fails
  | .frame type payload _ =>
    match contributorType type with
    | none => .notTaken
    | some t => if t.acceptedOn kind && !t.tooShort payload then .taken else .notTaken

/-- The verdicts on the frames of a stretch of line, up to the first message that a row of its own takes: that row's command
carries it, and the line behind it is another stretch (log 35). After a failure the search goes on behind the failed
frame's marker (R184). -/
def lineVerdicts (kind : PortKind) (raw : List Byte) : List FrameVerdict :=
  ((readFrames payloadLimit raw.length raw).map (judgeFrame kind)).takeWhile fun v => v != .taken

/-- One frame that no row of its own takes (R17): a failing one raises LINK_ERRORS and nothing else; a valid one refreshes
the link in RUN first, and is discarded in CONFIG. -/
def State.lineFailure (p : Port) (s : State) (v : FrameVerdict) : State :=
  match v with
  | .taken => s
  | .fails => s.frameFails p
  | .notTaken => if s.receives p then (s.refreshLink p).raise (portEvent .linkErrors p) else s

/-- A stretch of contributor line with frames that fail or are not taken: the port handles each frame completely before
the next (R17). -/
def State.contributorFailure (s : State) (p : Port) (raw : List Byte) : State :=
  (lineVerdicts (s.port p).par.kind raw).foldl (State.lineFailure p) s

/-! ### The commands -/

/-- CONTRIBUTOR_FRAME_FAILURE (R17). -/
def execContributorFrameFailure (p : Port) (raw : List Byte) (s : State) : Host.Outcome State Fault Refusal :=
  .next (s.contributorFailure p raw)

/-- WORD (R21). -/
def execWord (p : Port) (payload : List Byte) (s : State) : Host.Outcome State Fault Refusal :=
  .next (s.receiveBytes p .word payload (State.takeInWord p payload))

/-- RETRACT (R22). -/
def execRetract (p : Port) (count : Nat) (s : State) : Host.Outcome State Fault Refusal :=
  .next (s.receive p .retract (State.takeInRetract p count))

/-- STAMP (R24). -/
def execStamp (p : Port) (payload : List Byte) (s : State) : Host.Outcome State Fault Refusal :=
  .next (s.receiveBytes p .stamp payload (State.takeInStamp p payload))

/-- TAKE (R26, R39). -/
def execTake (p : Port) (s : State) : Host.Outcome State Fault Refusal :=
  .next (s.receive p .take fun t => some (t.decideTake p))

/-- RELEASE (R26, R48). -/
def execRelease (p : Port) (s : State) : Host.Outcome State Fault Refusal :=
  .next (s.receive p .release fun t => some (t.decideRelease p))

/-- PKG-OPEN (R23). -/
def execPkgOpen (p : Port) (id : PackageId) (count : Nat) (s : State) : Host.Outcome State Fault Refusal :=
  .next (s.receive p .pkgOpen (State.takeInOpen p id count))

/-- PKG-CUE (R23). -/
def execPkgCue (p : Port) (cue : PkgCueFields) (s : State) : Host.Outcome State Fault Refusal :=
  .next (s.receive p .pkgCue (State.takeInCue p cue))

/-- PKG-CLOSE (R23). -/
def execPkgClose (p : Port) (id : PackageId) (s : State) : Host.Outcome State Fault Refusal :=
  .next (s.receive p .pkgClose (State.takeInClose p id))

/-- PKG-DROP (R23). -/
def execPkgDrop (p : Port) (id : PackageId) (s : State) : Host.Outcome State Fault Refusal :=
  .next (s.receive p .pkgDrop (State.takeInDrop p id))

/-- REFRESH_DEADLINE_EXPIRY (R32). -/
def execRefreshDeadlineExpiry (p : Port) (s : State) : Host.Outcome State Fault Refusal :=
  .next (s.expireRefresh p)

/-- SILENCE_DEADLINE_EXPIRY (R19). -/
def execSilenceDeadlineExpiry (p : Port) (s : State) : Host.Outcome State Fault Refusal :=
  .next (s.expireSilence p)

/-- YIELD_DEADLINE_EXPIRY (spec/03 R47). -/
def execYieldDeadlineExpiry (g : Group) (s : State) : Host.Outcome State Fault Refusal :=
  .next (s.expireYield g)

/-- CUT_TIME_AGED (spec/03 R37). -/
def execCutTimeAged (g : Group) (s : State) : Host.Outcome State Fault Refusal :=
  .next (s.ageCut g)

/-- WORD_RECORD_TAKE (spec/03 R43): the head of an unpaused queue, if it is a WORD. -/
def State.takeWord (s : State) (p : Port) : State :=
  match s.nextRecord p with
  | some (.word w) => (s.removeHead p).judgeWord p w
  | _ => s

/-- WORD_RECORD_TAKE (spec/03 R43). -/
def execWordRecordTake (p : Port) (s : State) : Host.Outcome State Fault Refusal :=
  .next (s.takeWord p)

/-- RETRACT_RECORD_TAKE (spec/03 R52, spec/04 R72): the head of an unpaused queue, if it is a RETRACT. -/
def State.takeRetract (s : State) (p : Port) : State :=
  match s.nextRecord p with
  | some (.retract k _) => (s.removeHead p).retractWords p k
  | _ => s

/-- RETRACT_RECORD_TAKE (spec/04 R72). -/
def execRetractRecordTake (p : Port) (s : State) : Host.Outcome State Fault Refusal :=
  .next (s.takeRetract p)

end Sys2Proof.Machine
end

