-- ==== Sys2Proof/Machine/Placement.lean ====
section
/-! DEFINITION. The placement unit (spec/08) and the requests made of a display (spec/07 R116, R126): bands, the row
map, placement, the cover check, strap changes, CLEAR and MOVE requests, and the cut of a committed cue. -/

namespace Sys2Proof.Machine

/-! ### Bands (R129, R130, R133) -/

/-- A band and a strap meet when they share at least one row (R129). -/
def Band.meets (b : Band) (t : Strap) : Bool := t.r1 ≤ b.top + b.height - 1 && b.top ≤ t.r2

/-- A band meets a row map when it meets the strap of an occupied slot (R129). -/
def Band.meetsMap (b : Band) (m : Per4 (Option Strap)) : Bool :=
  allServices.any fun i => match m.get i with | none => false | some t => b.meets t

/-- The base band of a height: its bottom row is the base row (R130). -/
def ServiceParams.baseBand (par : ServiceParams) (h : Nat) : Band := ⟨par.baseRow + 1 - h, h⟩

/-- The top band of a height: its top row is the top row (R130). -/
def ServiceParams.topBand (par : ServiceParams) (h : Nat) : Band := ⟨par.topRow, h⟩

/-- The choice of a band, and whether the placement ends in conflict (R133). -/
def ServiceState.place (v : ServiceState) (h : Nat) : Band × Bool :=
  if !(v.par.baseBand h).meetsMap v.rowMap then (v.par.baseBand h, false)
  else if !(v.par.topBand h).meetsMap v.rowMap then (v.par.topBand h, false)
  else (v.par.baseBand h, true)

/-! ### Requests made of a display (spec/07 R116, R126) -/

/-- A CLEAR request (the table of R116). -/
def ServiceState.requestClear (v : ServiceState) : ServiceState :=
  match v.display with
  | .blank => v
  | .showing _ => { v with control := .clear }

/-- A MOVE request (the table of R116): a pending CLEAR stands. -/
def ServiceState.requestMove (v : ServiceState) (b : Band) : ServiceState :=
  match v.display, v.control with
  | .blank, _ => v
  | .showing _, .clear => v
  | .showing _, _ => { v with control := .move b }

/-- A CLEAR request for a service's display. -/
def State.requestClear (s : State) (k : Service) : State := s.setService k (s.service k).requestClear

/-- The committed cue of a service is cut (R126): its placements stay COMMITTED. -/
def State.cutCommitted (s : State) (k : Service) : State :=
  match (s.service k).committed with
  | none => s
  | some _ => (s.setService k { s.service k with committed := none }).raise (serviceEvent .cueCut k)

/-! ### The cover check (R135) and strap changes (R134, R136) -/

/-- The band that a SHOWING cue will hold: that of a pending MOVE, or the record's (R110, R135). -/
def ServiceState.heldBand (v : ServiceState) (r : ShowRecord) : Band :=
  match v.control with
  | .move b => b
  | _ => r.band

/-- The cover check of a service (R135). -/
def State.coverCheck (s : State) (k : Service) : State :=
  let v := s.service k
  match v.display with
  | .blank => s
  | .showing r =>
    let held := v.heldBand r
    if held.meetsMap v.rowMap then
      let c := v.place r.band.height
      let v' := { v with display := .showing { r with conflict := c.2 } }
      (s.setService k (if c.1 = held then v' else v'.requestMove c.1)).raiseIf (c.2 && !r.conflict)
        (serviceEvent .strapConflict k)
    else s

/-- The committed cue is marked as having seen the row map change (R136). -/
def Committed.seen (c : Committed) : Committed := { c with mapChanged := true }

/-- A strap change is applied to the row map: one that occupies a slot marks a committed cue and makes the cover check
(R134, R136). -/
def State.applyStrap (s : State) (k : Service) (slot : Fin 4) (rows : Option Strap) : State :=
  let v := s.service k
  let v1 := { v with rowMap := v.rowMap.set slot rows }
  match rows with
  | none => s.setService k v1
  | some _ => (s.setService k { v1 with committed := v1.committed.map Committed.seen }).coverCheck k

/-! ### The end of a play (spec/09 R148, spec/10 R164) -/

/-- The committed cue is a prepared cue of the package. -/
def Committed.isOf (c : Committed) (id : PackageId) : Bool :=
  match c.source with
  | .live _ => false
  | .prepared x => x.package == id

/-- A prepared cue of the package in the committed slot is cut. -/
def State.cutPrepared (s : State) (k : Service) (id : PackageId) : State :=
  match (s.service k).committed with
  | none => s
  | some c => if c.isOf id then s.cutCommitted k else s

/-- A service's package play ends, if there is one: its pointer becomes absent, so it leaves the playing-on set, and a
committed prepared cue of the package is cut (R148, R164). -/
def State.endPlay (s : State) (k : Service) : State :=
  match (s.service k).pointer with
  | none => s
  | some q => (s.setService k { s.service k with pointer := none }).cutPrepared k q.package

end Sys2Proof.Machine
end

