-- ==== Sys2Proof/Machine/Packages.lean ====
section
/-! DEFINITION. The package store (spec/10 R154 to R165): the takes of package records. -/

namespace Sys2Proof.Machine

/-- Sends a PACKAGE ANSWER on a SCRIPT port's link (R159). -/
def State.answerPackage (s : State) (p : Port) (id : PackageId) (r : PackageResult) : State :=
  s.sendPort p (.packageAnswer id r)

/-- Sets a port's load context (R155). -/
def State.setLoad (s : State) (p : Port) (c : LoadContext) : State := s.setPort p { s.port p with load := c }

/-- The slot of a package returns to EMPTY, and its prepared cues are freed. -/
def State.freePackage (s : State) (id : PackageId) : State := s.setPackages (replacePackage s.packages id none)

/-- A load of a package fails (R159): the slot returns to EMPTY, the alert is set and the failure is answered with the
received count reached. The context becomes `next`. The answer carries `id`, the package whose load fails: R159 has it
carry "the id the record named", and a PKG-CUE names none, while the PKG-OPEN of R156, case 1, names another package
(DESIGN CHOICE, log 34). -/
def State.failLoad (s : State) (p : Port) (id : PackageId) (why : LoadFailure) (next : LoadContext) : State :=
  let received := ((s.findPackage id).map fun r => r.cues.length).getD 0
  (((s.freePackage id).setLoad p next).setAlert .packageFailed (some p)).answerPackage p id (.failed why received)

/-- A package record as an open makes it (R156, cases 3 and 4). -/
def openedRecord (p : Port) (id : PackageId) (count : Nat) : PackageRecord := ⟨id, .loading, count, [], some p⟩

/-- The end of whatever load is in progress on the port (R156, case 1). -/
def State.endLoad (s : State) (p : Port) : State :=
  match (s.port p).load with
  | .idle => s
  | .loading q => s.failLoad p q .count .idle
  | .ignoring _ => s.setLoad p .idle

/-- Cases 2 to 5 of R156. -/
def State.openPackage (s : State) (p : Port) (id : PackageId) (count : Nat) : State :=
  match s.findPackage id with
  | some r =>
    match r.state with
    | .loading =>
      ((s.setLoad p (.ignoring id)).setAlert .packageFailed (some p)).answerPackage p id .busy
    | .ready =>
      (s.setPackages (replacePackage s.packages id (some (openedRecord p id count)))).setLoad p (.loading id)
  | none =>
    match insertPackage (openedRecord p id count) s.packages with
    | some t => (s.setPackages t).setLoad p (.loading id)
    | none =>
      ((s.setLoad p (.ignoring id)).setAlert .packageFailed (some p)).answerPackage p id (.failed .full 0)

/-- The tests of R157 on a PKG-CUE in a load; none when the cue joins. -/
def State.cueRefused (s : State) (r : PackageRecord) (c : PreparedCue) : Option LoadFailure :=
  if r.declared ≤ r.cues.length then some .count
  else if (match r.cues.getLast? with | none => false | some l => decide (c.offset ≤ l.offset)) then some .order
  else if s.poolCapacity ≤ poolUse s.packages then some .full
  else none

/-- A PKG-CUE against the port's load context (R157). -/
def State.loadCue (s : State) (p : Port) (c : PreparedCue) : State :=
  match (s.port p).load with
  | .idle => s.raise (portEvent .linkErrors p)
  | .ignoring _ => s
  | .loading id =>
    match s.findPackage id with
    | none => s
    | some r =>
      match s.cueRefused r c with
      | some why => s.failLoad p id why (.ignoring id)
      | none => s.setPackages (replacePackage s.packages id (some { r with cues := r.cues ++ [c] }))

/-- A PKG-CLOSE of a package in a load on this port (R158). -/
def State.closeLoad (s : State) (p : Port) (id : PackageId) (r : PackageRecord) : State :=
  if r.cues.length = r.declared then
    ((s.setPackages (replacePackage s.packages id (some { r with state := .ready, loadingPort := none }))).setLoad p
      .idle).answerPackage p id (.loaded r.cues.length)
  else s.failLoad p id .count .idle

/-- A PKG-CLOSE against the port's load context (R158). -/
def State.closePackage (s : State) (p : Port) (id : PackageId) : State :=
  match (s.port p).load with
  | .loading q =>
    if q = id then
      match s.findPackage id with
      | none => s.answerPackage p id .unknown
      | some r => s.closeLoad p id r
    else s.answerPackage p id .unknown
  | .ignoring q => if q = id then s.setLoad p .idle else s.answerPackage p id .unknown
  | .idle => s.answerPackage p id .unknown

/-- A context that was IGNORING the package becomes none (R160). -/
def State.forget (s : State) (p : Port) (id : PackageId) : State :=
  if (s.port p).load = .ignoring id then s.setLoad p .idle else s

/-- The plays of a package end on every service of its playing-on set (R160, R164). -/
def State.endPlays (s : State) (id : PackageId) : State :=
  allServices.foldl (fun t k => if t.plays k id then t.endPlay k else t) s

/-- A PKG-DROP (R160). -/
def State.dropPackage (s : State) (p : Port) (id : PackageId) : State :=
  match s.findPackage id with
  | none => (s.forget p id).answerPackage p id .unknown
  | some r =>
    match r.state with
    | .ready => (((s.endPlays id).freePackage id).forget p id).answerPackage p id .dropped
    | .loading =>
      if r.loadingPort = some p then ((s.freePackage id).setLoad p .idle).answerPackage p id .dropped
      else s.answerPackage p id .busy

/-! ### The commands -/

/-- PKG_OPEN_TAKE (R156): the head of an unpaused queue, if it is a PKG-OPEN. -/
def State.takeOpen (s : State) (p : Port) : State :=
  match s.nextRecord p with
  | some (.pkgOpen id count) => ((s.removeHead p).endLoad p).openPackage p id count
  | _ => s

/-- PKG_CUE_TAKE (R157). -/
def State.takeCue (s : State) (p : Port) : State :=
  match s.nextRecord p with
  | some (.pkgCue c) => (s.removeHead p).loadCue p c
  | _ => s

/-- PKG_CLOSE_TAKE (R158). -/
def State.takeClose (s : State) (p : Port) : State :=
  match s.nextRecord p with
  | some (.pkgClose id) => (s.removeHead p).closePackage p id
  | _ => s

/-- PKG_DROP_TAKE (R160). -/
def State.takeDrop (s : State) (p : Port) : State :=
  match s.nextRecord p with
  | some (.pkgDrop id) => (s.removeHead p).dropPackage p id
  | _ => s

/-- The take of whatever record is at the head of an unpaused queue. -/
def State.takeHead (s : State) (p : Port) : State :=
  match s.nextRecord p with
  | none => s
  | some (.word _) => s.takeWord p
  | some (.retract _ _) => s.takeRetract p
  | some (.pkgOpen _ _) => s.takeOpen p
  | some (.pkgCue _) => s.takeCue p
  | some (.pkgClose _) => s.takeClose p
  | some (.pkgDrop _) => s.takeDrop p

/-- PKG_OPEN_TAKE (R156). -/
def execPkgOpenTake (p : Port) (s : State) : Host.Outcome State Fault Refusal := .next (s.takeOpen p)

/-- PKG_CUE_TAKE (R157). -/
def execPkgCueTake (p : Port) (s : State) : Host.Outcome State Fault Refusal := .next (s.takeCue p)

/-- PKG_CLOSE_TAKE (R158). -/
def execPkgCloseTake (p : Port) (s : State) : Host.Outcome State Fault Refusal := .next (s.takeClose p)

/-- PKG_DROP_TAKE (R160). -/
def execPkgDropTake (p : Port) (s : State) : Host.Outcome State Fault Refusal := .next (s.takeDrop p)

end Sys2Proof.Machine
end

