-- ==== Sys2Proof/Machine/Automation.lean ====
section
/-! DEFINITION. The automation unit (spec/09) with the conversion of labels (spec/01 R14): EVENT, the pending
automation list, the segment state, the presentation switch lists and what each switch does. -/

namespace Sys2Proof.Machine

/-! ### The conversion of a label (spec/01 R14) -/

/-- The outcomes of a conversion; an immediate one says whether IMMEDIATE_NO_ANCHOR is raised. -/
inductive Conversion where
  | range
  | immediate (noAnchor : Bool)
  | converted (effect : Smc)
  deriving DecidableEq, Repr

/-- Converts an event label to an effect SMC from the anchor as it stands (R14). -/
def RefUnit.convert (u : RefUnit) (l : Label) : Conversion :=
  if !labelInRange l u.rate then .range
  else
    match u.anchor with
    | none => .immediate true
    | some a =>
      if l.dropFrame then .immediate true
      else
        let d := dayDifference u.rate (labelFrame l u.rate) a.frame
        if d ≤ 0 then .immediate false
        else
          let e := plus a.smc (u.rate.sumFrames a.phase d.toNat)
          if 300000 < elapsed u.smc e then .range else .converted e

/-! ### The lists (R141, R146) -/

/-- The place of an entry in the pending list: after every entry whose effect SMC is not later than its own. -/
def insertEvent (e : PendingEvent) : List PendingEvent → List PendingEvent
  | [] => [e]
  | x :: t => if later x.effect e.effect then e :: x :: t else x :: insertEvent e t

/-- The place of an entry in a switch list: after every entry whose switch SMC is not later than its own. -/
def insertSwitch (e : SwitchEntry) : List SwitchEntry → List SwitchEntry
  | [] => [e]
  | x :: t => if later x.switch e.switch then e :: x :: t else x :: insertSwitch e t

/-- The pending list is full at 32 entries. -/
def eventLimit : Nat := 32

/-- A switch list holds up to 4 entries. -/
def switchLimit : Nat := 4

/-! ### What each switch does (R148 to R152, spec/08 R134) -/

/-- Every queued cue whose P is not earlier than the switch SMC is cut (spec/06 R106). -/
def State.cutQueue (s : State) (k : Service) (at_ : Smc) : State :=
  let gone := (s.service k).queue.filter fun c => !earlier c.present at_
  gone.foldl (fun t c => (t.markCue k c.body.id .gone).raise (serviceEvent .cueCut k))
    (s.setService k { s.service k with queue := (s.service k).queue.filter fun c => earlier c.present at_ })

/-- A live cue in the committed slot whose P is not earlier than the switch SMC. -/
def Committed.liveFrom (c : Committed) (at_ : Smc) : Bool :=
  match c.source with
  | .live x => !earlier x.present at_
  | .prepared _ => false

/-- The cut of such a live cue (R150, R151). -/
def State.cutLiveCommitted (s : State) (k : Service) (at_ : Smc) : State :=
  match (s.service k).committed with
  | none => s
  | some c => if c.liveFrom at_ then s.cutCommitted k else s

/-- A prepared cue the service is SHOWING receives a CLEAR request (R149, R152). -/
def State.clearPrepared (s : State) (k : Service) : State :=
  match (s.service k).display with
  | .blank => s
  | .showing r => if r.source.isSome then s.requestClear k else s

/-- The kind in force and the record of the last LIVE, PACKAGE or BREAK entry applied (R147). -/
def State.setKind (s : State) (k : Service) (inForce : SegKind) (last : LastSwitch) : State :=
  s.setService k { s.service k with kindInForce := inForce, lastSwitch := some last }

/-- B_L becomes the switch SMC (R149, R152). -/
def State.setLiveStart (s : State) (k : Service) (t : Smc) : State :=
  s.setService k { s.service k with liveStart := some t }

/-- A LIVE entry is applied (R149). -/
def State.switchLive (s : State) (k : Service) (at_ : Smc) : State :=
  (((s.endPlay k).clearPrepared k).setKind k .live ⟨.live, at_, false⟩).setLiveStart k at_

/-- A BREAK entry is applied (R150). -/
def State.switchBreak (s : State) (k : Service) (at_ : Smc) : State :=
  ((((s.endPlay k).setKind k .brk ⟨.brk, at_, false⟩).cutQueue k at_).cutLiveCommitted k at_).requestClear k

/-- A PACKAGE entry whose package is READY is applied (R151): the play starts at the first prepared cue. -/
def State.switchPackage (s : State) (k : Service) (at_ : Smc) (id : PackageId) : State :=
  let t := s.endPlay k
  let t1 := t.setService k { t.service k with pointer := some ⟨id, 1, at_⟩ }
  ((t1.setKind k .package ⟨.package, at_, false⟩).cutQueue k at_).cutLiveCommitted k at_

/-- The segment state after a fallback: the current segment becomes LIVE while it is still the one of this entry
(R152). -/
def ServiceState.fallBack (v : ServiceState) (effect : Smc) : ServiceState :=
  match v.segCurrent with
  | .package _ => if v.lastChange = some effect then { v with segCurrent := .live } else v
  | _ => v

/-- A PACKAGE entry whose package is absent or LOADING is applied: it behaves as a switch to LIVE (R152). -/
def State.switchFallback (s : State) (k : Service) (at_ effect : Smc) : State :=
  let t := (((s.endPlay k).clearPrepared k).setKind k .live ⟨.package, at_, true⟩).setLiveStart k at_
  t.setService k ((t.service k).fallBack effect)

/-- The package table holds the package in the state READY. -/
def State.packageReady (s : State) (id : PackageId) : Bool :=
  match s.findPackage id with
  | none => false
  | some r => r.state == .ready

/-- An entry of a presentation switch list is applied (R147). -/
def State.applySwitch (k : Service) (s : State) (e : SwitchEntry) : State :=
  match e.body with
  | .live => s.switchLive k e.switch
  | .brk => s.switchBreak k e.switch
  | .package id effect =>
    if s.packageReady id then s.switchPackage k e.switch id else s.switchFallback k e.switch effect
  | .strap slot rows => s.applyStrap k slot rows

/-- An entry joins a presentation switch list; if the list held 4 entries, the earliest of the five leaves in the same
step and is applied early (R146). -/
def State.joinSwitch (s : State) (k : Service) (e : SwitchEntry) : State :=
  let v := s.service k
  let all := insertSwitch e v.switches
  if v.switches.length < switchLimit then s.setService k { v with switches := all }
  else
    match all with
    | [] => s
    | x :: t => State.applySwitch k ((s.setService k { v with switches := t }).raise (serviceEvent .earlySwitch k)) x

/-! ### The effects of pending entries (R143 to R145, spec/08 R134) -/

/-- The kind of a segment. -/
def Segment.kind : Segment → SegKind
  | .live => .live
  | .package _ => .package
  | .brk => .brk

/-- The switch entry content of a segment with effect SMC `e`. -/
def Segment.switchBody (g : Segment) (e : Smc) : SwitchBody :=
  match g with
  | .live => .live
  | .package id => .package id e
  | .brk => .brk

/-- The segment state after a SEGMENT with effect SMC `e` (R145). -/
def ServiceState.enterSegment (v : ServiceState) (g : Segment) (e : Smc) : ServiceState :=
  { v with segPrevious := v.segCurrent.kind, segCurrent := g, lastChange := some e }

/-- A pending entry is applied at its effect time (R143 to R145, spec/08 R134). -/
def State.applyEvent (s : State) (e : PendingEvent) : State :=
  let k := e.service
  match e.body with
  | .route g => s.changeRoute k g
  | .delay d => s.setService k { s.service k with par := { (s.service k).par with delay := d } }
  | .segment g =>
    let t := s.setService k ((s.service k).enterSegment g e.effect)
    t.joinSwitch k ⟨plus e.effect (t.service k).par.delay, g.switchBody e.effect, false⟩
  | .strap slot rows => s.joinSwitch k ⟨plus e.effect (s.service k).par.delay, .strap slot rows, false⟩

/-- A pending entry expires: a boundary has been made since it joined, and its effect SMC is reached (R142). -/
def PendingEvent.expires (now : Smc) (e : PendingEvent) : Bool := e.armed && reached now e.effect

/-- A switch entry expires (R147). -/
def SwitchEntry.expires (now : Smc) (e : SwitchEntry) : Bool := e.armed && reached now e.switch

/-- Every pending entry whose effect time expires leaves the list and is applied, one after another (R142). -/
def State.expireEffects (s : State) : State :=
  (s.events.filter (PendingEvent.expires s.now)).foldl State.applyEvent
    { s with events := s.events.filter fun e => !e.expires s.now }

/-- Every switch entry of a service whose switch time expires leaves the list and is applied, one after another
(R147). -/
def State.expireSwitches (s : State) (k : Service) : State :=
  let v := s.service k
  (v.switches.filter (SwitchEntry.expires s.now)).foldl (State.applySwitch k)
    (s.setService k { v with switches := v.switches.filter fun e => !e.expires s.now })

/-- B_L becomes absent once it lies 2^30 ms behind the SMC (spec/05 R86). -/
def State.ageLiveStart (s : State) (k : Service) : State :=
  match (s.service k).liveStart with
  | none => s
  | some t => if aged s.now t then s.setService k { s.service k with liveStart := none } else s

/-- E_last becomes absent once it lies 2^30 ms behind the SMC (R145). -/
def State.ageLastChange (s : State) (k : Service) : State :=
  match (s.service k).lastChange with
  | none => s
  | some t => if aged s.now t then s.setService k { s.service k with lastChange := none } else s

/-! ### EVENT (R140, R141) -/

/-- The result of an accepted event: CLAMPED, MISSING or ACCEPTED (R140, tests 5 to 7). -/
def State.acceptance (s : State) (f : EventFields) (effect : Smc) (immediate : Bool) : AnswerResult :=
  if f.changed then .clamped effect immediate
  else
    match f.body with
    | .segment (.package id) => if (s.findPackage id).isNone then .missing effect immediate else .accepted effect immediate
    | _ => .accepted effect immediate

/-- A converted event joins the list and is answered, or is refused FULL (R140, tests 4 to 7; R141). -/
def State.acceptEvent (s : State) (tag : BitVec 16) (f : EventFields) (effect : Smc) (immediate : Bool) : State :=
  if eventLimit ≤ s.events.length then s.sendAnswer ⟨tag, .full⟩
  else
    ({ s with events := insertEvent ⟨effect, f.service, f.body, false⟩ s.events }).sendAnswer
      ⟨tag, s.acceptance f effect immediate⟩

/-- The conversion of an event's label decides the rest (R140, test 3). -/
def State.convertEvent (s : State) (tag : BitVec 16) (f : EventFields) : State :=
  match s.ref.convert f.label with
  | .range => s.sendAnswer ⟨tag, .range⟩
  | .immediate noAnchor =>
    (s.raiseIf noAnchor (plainEvent .immediateNoAnchor)).acceptEvent tag f s.now true
  | .converted e => s.acceptEvent tag f e false

/-- A valid EVENT frame with its payload (R139, R140): discarded in CONFIG; a payload above the link's limit is a frame
that fails its length and is dropped without an answer. -/
def State.takeEvent (s : State) (payload : List Byte) : State :=
  if !s.running || decide (payloadLimit < payload.length) then s
  else
    match readEvent payload with
    | none => s.sendAnswer ⟨readEventTag payload, .range⟩
    | some f =>
      if (s.service f.service).par.enabled then s.convertEvent (readEventTag payload) f
      else s.sendAnswer ⟨readEventTag payload, .range⟩

/-! ### The commands -/

/-- EVENT (R140). -/
def execEvent (payload : List Byte) (s : State) : Host.Outcome State Fault Refusal := .next (s.takeEvent payload)

/-- AUTOMATION_FRAME_DROPPED (R139): dropped without an answer. -/
def execAutomationFrameDropped (s : State) : Host.Outcome State Fault Refusal := .next s

/-- EFFECT_TIME_EXPIRY (R142). -/
def execEffectTimeExpiry (s : State) : Host.Outcome State Fault Refusal := .next s.expireEffects

/-- SWITCH_TIME_EXPIRY (R147). -/
def execSwitchTimeExpiry (k : Service) (s : State) : Host.Outcome State Fault Refusal := .next (s.expireSwitches k)

/-- LIVE_START_AGED (spec/05 R86). -/
def execLiveStartAged (k : Service) (s : State) : Host.Outcome State Fault Refusal := .next (s.ageLiveStart k)

/-- LAST_CHANGE_AGED (R145). -/
def execLastChangeAged (k : Service) (s : State) : Host.Outcome State Fault Refusal := .next (s.ageLastChange k)

end Sys2Proof.Machine
end

