-- ==== Sys2Proof/Machine/Output.lean ====
section
/-! DEFINITION. The output scheduler (spec/07): the due sequence, commit and skip, controls and captions within the frame
budget, accounting, and the inserter's answers; with the rows of a prepared cue (spec/10 R163). -/

namespace Sys2Proof.Machine

/-! ### The due sequence (R111) -/

/-- A prepared cue of a play with its position and the presentation time it has now (spec/05 R92). -/
structure PreparedDue where
  cue : PreparedCue
  package : PackageId
  position : Nat
  present : Smc
  deriving DecidableEq, Repr

/-- A cue of a due sequence. -/
inductive Due where
  | live (cue : CueRecord)
  | prepared (cue : PreparedDue)
  deriving DecidableEq, Repr

/-- Its presentation time. -/
def Due.present : Due → Smc
  | .live c => c.present
  | .prepared c => c.present

/-- The prepared cues from a position on, with their places counted from there. -/
def numberFrom (u : RefUnit) (q : PlayPointer) (pos : Nat) : List PreparedCue → List PreparedDue
  | [] => []
  | c :: t => ⟨c, q.package, pos, u.snap (plus q.switch c.offset)⟩ :: numberFrom u q (pos + 1) t

/-- The package part of a service's due sequence: the prepared cues from its pointer's position to the last (spec/10
R162). -/
def State.preparedPart (s : State) (k : Service) : List PreparedDue :=
  match (s.service k).pointer with
  | none => []
  | some q =>
    match s.findPackage q.package with
    | none => []
    | some r => numberFrom s.ref q q.pos (r.cues.drop (q.pos - 1))

/-- The two sources merged: a live cue stands after every prepared cue whose P is not later than its own (R111). -/
def mergeDue : List CueRecord → List PreparedDue → List Due
  | [], ps => ps.map .prepared
  | l :: ls, ps =>
    (ps.takeWhile fun x => !later x.present l.present).map .prepared ++
      .live l :: mergeDue ls (ps.dropWhile fun x => !later x.present l.present)

/-- The due sequence of a service (R111). -/
def State.dueSequence (s : State) (k : Service) : List Due := mergeDue (s.service k).queue (s.preparedPart k)

/-- A cue is due when its P is not later than the next boundary (R113). -/
def State.isDue (s : State) (d : Due) : Bool := !later d.present s.ref.nextBoundary

/-! ### Commit and skip (R113, R114) -/

/-- The play pointer advances past a prepared cue (spec/10 R162). -/
def ServiceState.advance (v : ServiceState) : ServiceState :=
  { v with pointer := v.pointer.map fun q => { q with pos := q.pos + 1 } }

/-- A due cue leaves the sequence as SKIPPED (R113, spec/06 R105). -/
def State.skipDue (k : Service) (s : State) (d : Due) : State :=
  match d with
  | .live c =>
    ((s.setService k { s.service k with queue := (s.service k).queue.tail }).markCue k c.body.id .gone).raise
      (serviceEvent .cueSkipped k)
  | .prepared _ => (s.setService k (s.service k).advance).raise (serviceEvent .cueSkipped k)

/-- The rows of a prepared cue for a service, each cut at the row width W (spec/10 R163). -/
def PreparedDue.given (x : PreparedDue) (w : Nat) : PreparedShow where
  package := x.package
  position := x.position
  row1 := x.cue.row1.take w
  row2 := x.cue.row2.map fun t => t.take w
  duration := x.cue.duration
  present := x.present
  speaker := x.cue.speaker
  truncated := decide (w < x.cue.row1.length) || decide (w < (x.cue.row2.getD []).length)

/-- How many of its rows were cut; each raises WORD_TRUNCATED (spec/10 R163). -/
def PreparedDue.cuts (x : PreparedDue) (w : Nat) : Nat :=
  (if w < x.cue.row1.length then 1 else 0) + (if w < (x.cue.row2.getD []).length then 1 else 0)

/-- The number of rows of a committed cue. -/
def CommittedSource.height : CommittedSource → Nat
  | .live c => c.body.height
  | .prepared x => if x.row2.isSome then 2 else 1

/-- A cue enters the committed slot with its band chosen (R114, spec/08 R133). -/
def State.enterSlot (s : State) (k : Service) (x : CommittedSource) : State :=
  let place := (s.service k).place x.height
  (s.setService k { s.service k with committed := some ⟨x, place.1, place.2, false⟩ }).raiseIf place.2
    (serviceEvent .strapConflict k)

/-- The cue leaves its source and is committed (R114). -/
def State.commitDue (s : State) (k : Service) (d : Due) : State :=
  match d with
  | .live c =>
    ((s.setService k { s.service k with queue := (s.service k).queue.tail }).markCue k c.body.id .committed).enterSlot k
      (.live c)
  | .prepared x =>
    let w := (s.service k).par.rowWidth
    ((s.setService k (s.service k).advance).raiseTimes (serviceEvent .wordTruncated k) (x.cuts w)).enterSlot k
      (.prepared (x.given w))

/-- A committed cue that waits is discarded, because a newer cue has become due (R113). -/
def State.supersede (s : State) (k : Service) : State :=
  match (s.service k).committed with
  | none => s
  | some _ => (s.setService k { s.service k with committed := none }).raise (serviceEvent .cueSkipped k)

/-- Step 2 for one service: every due cue but the last is skipped, a waiting cue is superseded, and the last due cue is
committed (R113). -/
def State.commitStep (s : State) (k : Service) : State :=
  let due := (s.dueSequence k).takeWhile s.isDue
  match due.getLast? with
  | none => s
  | some d => ((due.dropLast.foldl (State.skipDue k) s).supersede k).commitDue k d

/-! ### Clear deadlines (R115) -/

/-- The clear deadline of a SHOWING display has been reached. -/
def ServiceState.clearExpired (v : ServiceState) (now : Smc) : Bool :=
  match v.display with
  | .blank => false
  | .showing r => match r.clearDeadline with | none => false | some d => reached now d

/-- The display with its clear deadline absent. -/
def Display.withoutDeadline : Display → Display
  | .blank => .blank
  | .showing r => .showing { r with clearDeadline := none }

/-- Expiry of a service's clear deadline: the deadline becomes absent and a CLEAR request is made (R115). -/
def State.expireClear (s : State) (k : Service) : State :=
  if (s.service k).clearExpired s.now then
    (s.setService k { s.service k with display := (s.service k).display.withoutDeadline }).requestClear k
  else s

/-! ### Sending (R117, R122, R123) -/

/-- The cost of a CLEAR or a MOVE (R117). -/
def controlCost : Nat := 4

/-- The character count of a committed cue: the sum of its row lengths. -/
def CommittedSource.count : CommittedSource → Nat
  | .live c => c.body.count
  | .prepared x => x.row1.length + (x.row2.getD []).length

/-- The cost of a SHOW (R117). -/
def CommittedSource.cost (x : CommittedSource) : Nat := 8 + x.count

/-- The SHOW message of a committed cue (R128). -/
def Committed.message (c : Committed) (k : Service) : OutputMsg :=
  match c.source with
  | .live x =>
    .showCue k x.body.id.toNat none c.band x.body.speaker x.body.truncated (rowText x.body.row1)
      (if x.body.row2 = [] then none else some (rowText x.body.row2))
  | .prepared x => .showCue k x.position (some x.package) c.band x.speaker x.truncated x.row1 x.row2

/-- The SHOWING record of a committed cue sent at an SMC (R122, spec/05 R93). -/
def Committed.record (c : Committed) (now : Smc) (maxHold : Nat) : ShowRecord :=
  match c.source with
  | .live x =>
    { cueId := x.body.id.toNat
      source := none
      band := c.band
      shown := now
      clearDeadline := some (plus now maxHold)
      present := x.present
      hold := x.reading
      anchor := some x.body.anchor
      conflict := c.conflict }
  | .prepared x =>
    { cueId := x.position
      source := some x.package
      band := c.band
      shown := now
      clearDeadline := some (plus now x.duration)
      present := x.present
      hold := x.duration
      anchor := none
      conflict := c.conflict }

/-- The lateness at display of a live cue is reported and raised as LATENESS_MS (R122). -/
def State.accountLateness (s : State) (k : Service) (c : Committed) : State :=
  match c.source with
  | .prepared _ => s
  | .live x =>
    let l := elapsed (plus x.body.anchor (s.service k).par.delay) s.now
    (s.setService k { s.service k with shownLateness := some l }).raise ⟨.latenessMs, none, some k, none, l.toNat⟩

/-- Sends the SHOW of a committed cue (R122); the cover check follows when its map-changed mark is set (spec/08 R136). -/
def State.sendShow (s : State) (k : Service) (c : Committed) : State :=
  let v := s.service k
  let s1 := (s.setService k
    { v with
      committed := none
      display := .showing (c.record s.now v.par.maxHold)
      control := .none }).sendOutput (c.message k)
  let s2 := s1.accountLateness k c
  if c.mapChanged then s2.coverCheck k else s2

/-- Sends a pending control (R123). -/
def State.sendControl (s : State) (k : Service) : State :=
  let v := s.service k
  match v.control with
  | .none => s
  | .clear => (s.setService k { v with display := .blank, control := .none }).sendOutput (.clear k)
  | .move b =>
    let d := match v.display with | .blank => Display.blank | .showing r => .showing { r with band := b }
    ((s.setService k { v with display := d, control := .none }).sendOutput (.move k b)).raise (serviceEvent .moveSent k)

/-- The state at a boundary, with what steps 3 and 4 have left of the frame budget. -/
structure Sending where
  state : State
  budget : Nat

/-- Step 3 for one service: a pending control is sent, unless a committed cue waits (R117). -/
def Sending.control (x : Sending) (k : Service) : Sending :=
  let v := x.state.service k
  if v.committed.isNone && v.control != .none then ⟨x.state.sendControl k, x.budget - controlCost⟩ else x

/-- Step 4 for one service in STRICT mode (R118). -/
def Sending.strict (x : Sending) (k : Service) : Sending :=
  match (x.state.service k).committed with
  | none => x
  | some c => if c.source.cost ≤ x.budget then ⟨x.state.sendShow k c, x.budget - c.source.cost⟩ else x

/-- The deficit of a service is replaced. -/
def State.setDeficit (s : State) (k : Service) (d : Nat) : State := s.setService k { s.service k with deficit := d }

/-- The largest deficit (R119). -/
def deficitMax : Nat := 512

/-- Step 4 for one service in WRR mode (R119). -/
def Sending.wrr (x : Sending) (k : Service) : Sending :=
  let v := x.state.service k
  match v.committed with
  | none => ⟨x.state.setDeficit k 0, x.budget⟩
  | some c =>
    let raised := min deficitMax (v.deficit + 32 * v.par.weight)
    if c.source.cost ≤ raised ∧ c.source.cost ≤ x.budget then
      ⟨{ ((x.state.setDeficit k (raised - c.source.cost)).sendShow k c) with roundRobin := k },
        x.budget - c.source.cost⟩
    else ⟨x.state.setDeficit k raised, x.budget⟩

/-- The four services from the one after the round-robin position on (R119). -/
def visitOrder (last : Service) : List Service := [last + 1, last + 2, last + 3, last]

/-! ### The five steps (R112, R121, R125) -/

/-- The enabled services in order. -/
def State.enabledServices (s : State) : List Service := allServices.filter fun k => (s.service k).par.enabled

/-- Step 3 (R112, R117): the pending controls, from S0 to S3, with the whole frame budget. While the inserter is BUSY it
sends nothing (R125). -/
def Sending.controls (x : Sending) : Sending :=
  match x.state.inserter with
  | .ready => x.state.enabledServices.foldl Sending.control ⟨x.state, x.state.budget⟩
  | .busy => x

/-- Step 4 (R112, R118, R119): the captions, with what step 3 has left of the budget. While the inserter is BUSY it sends
nothing (R125). -/
def Sending.captions (x : Sending) : Sending :=
  match x.state.inserter, x.state.schedMode with
  | .busy, _ => x
  | .ready, .strict => x.state.enabledServices.foldl Sending.strict x
  | .ready, .wrr =>
    ((visitOrder x.state.roundRobin).filter fun k => (x.state.service k).par.enabled).foldl Sending.wrr x

/-- A service that still holds a committed cue raises CUE_DEFERRED (R121). -/
def State.deferEvent (s : State) (k : Service) : State :=
  s.raiseIf (s.service k).committed.isSome (serviceEvent .cueDeferred k)

/-- The busy count at which the output is stalled (R125). -/
def stallCount : Nat := 25

/-- The alert OUTPUT_STALLED is set when the busy count reaches 25 (R125). -/
def State.checkStall (s : State) : State := if s.busyCount = stallCount then s.setAlert .outputStalled none else s

/-- Step 5 (R121, R125). -/
def State.account (s : State) : State :=
  match s.inserter with
  | .ready => { s.enabledServices.foldl State.deferEvent s with busyCount := 0 }
  | .busy => (({ s with busyCount := s.busyCount + 1 }).raise (plainEvent .outputBusyFrames)).checkStall

/-- Step 1 (R112): the clear deadline of every enabled service is tested. -/
def State.deadlineStep (s : State) : State := s.enabledServices.foldl State.expireClear s

/-! ### The commands -/

/-- CLEAR_DEADLINE_EXPIRY (R115). -/
def execClearDeadlineExpiry (k : Service) (s : State) : Host.Outcome State Fault Refusal := .next (s.expireClear k)

/-- OUTPUT_STALLED (R125). -/
def execOutputStalled (s : State) : Host.Outcome State Fault Refusal := .next s.checkStall

/-- READY (R124). -/
def execReady (s : State) : Host.Outcome State Fault Refusal := .next { s with inserter := .ready }

/-- BUSY (R124). -/
def execBusy (s : State) : Host.Outcome State Fault Refusal := .next { s with inserter := .busy }

/-- OUTPUT_FRAME_DROPPED (R124): dropped without effect. -/
def execOutputFrameDropped (s : State) : Host.Outcome State Fault Refusal := .next s

end Sys2Proof.Machine
end

