-- ==== Sys2Proof/Machine/Boundary.lean ====
section
/-! DEFINITION. The frame boundary (spec/01 R1 to R3): what is taken at it, the advance of the SMC and the anchor, the
samples of levels, and the output scheduler's work. -/

namespace Sys2Proof.Machine

/-! ### What is taken at a boundary -/

/-- Expiry of the idle deadline of a service's open cue (spec/04 R63). -/
def State.expireIdle (s : State) (k : Service) : State :=
  match (s.service k).openCue with
  | none => s
  | some o => if reached s.now o.idleDeadline then s.closeCue k else s

/-- One expiry or one take. -/
def State.runTask (s : State) (t : BoundaryTask) : State :=
  match t with
  | .refresh p => s.expireRefresh p
  | .silence p => s.expireSilence p
  | .yieldEnd g => s.expireYield g
  | .cutAged g => s.ageCut g
  | .idle k => s.expireIdle k
  | .effects => s.expireEffects
  | .switches k => s.expireSwitches k
  | .liveStartAged k => s.ageLiveStart k
  | .lastChangeAged k => s.ageLastChange k
  | .take p => s.takeHead p

/-- Every timer of the part but the clear deadlines, which the output scheduler's work examines (spec/07 R112). -/
def everyTimer : List BoundaryTask :=
  allPorts.map .refresh ++ allPorts.map .silence ++ allGroups.map .yieldEnd ++ allGroups.map .cutAged ++
    allServices.map .idle ++ [.effects] ++ allServices.map .switches ++ allServices.map .liveStartAged ++
    allServices.map .lastChangeAged

/-- Takes the expiries that the last boundary left: the part finishes the work of each frame boundary before the next
(spec/00), and a timer expires at the first boundary that reaches its deadline (spec/01 R3). Log 5. -/
def State.finishBoundary (s : State) : State := everyTimer.foldl State.runTask s

/-! ### The advance (R1, R13) -/

/-- A valid anchor advances by one frame at a boundary (R13). -/
def Anchor.advance (a : Anchor) (r : Rate) (smc : Smc) (ph : Fin 3) : Anchor :=
  ⟨(a.frame + 1) % r.framesPerDay, smc, ph⟩

/-- The reference unit after the advance of a boundary made at a moment (R1, R13). -/
def RefUnit.advance (u : RefUnit) (moment : Moment) : RefUnit :=
  { u with
    smc := u.nextBoundary
    phase := u.rate.nextPhase u.phase
    anchor := u.anchor.map fun a => a.advance u.rate u.nextBoundary (u.rate.nextPhase u.phase)
    lastBoundary := some moment }

/-- The unit makes its boundaries in HOLDOVER, or in QUALIFYING entered from HOLDOVER (R10). -/
def RefUnit.inHoldover (u : RefUnit) : Bool :=
  u.state == .holdover || (u.state == .qualifying && u.origin == some .holdover)

/-- Every entry of the automation lists has seen a boundary (R3, log 6). -/
def State.armTimers (s : State) : State :=
  { s with
    events := s.events.map fun e => { e with armed := true }
    services := s.services.map fun v => { v with switches := v.switches.map fun e => { e with armed := true } } }

/-! ### The things of a boundary, in their order (spec/07 R112, spec/11 R169) -/

/-- One thing taken at a boundary: a task, or a piece of the output scheduler's work (R112): step 1, the commit of one
service in step 2, step 3, step 4, and step 5. -/
inductive BoundaryStep where
  | task (t : BoundaryTask)
  | deadlines
  | commit (k : Service)
  | controls
  | captions
  | account
  deriving DecidableEq, Repr

/-- One thing is taken; what steps 3 and 4 have left of the frame budget goes from the one to the other. -/
def Sending.runStep (x : Sending) (t : BoundaryStep) : Sending :=
  match t with
  | .task t => ⟨x.state.runTask t, x.budget⟩
  | .deadlines => ⟨x.state.deadlineStep, x.budget⟩
  | .commit k => ⟨x.state.commitStep k, x.budget⟩
  | .controls => x.controls
  | .captions => x.captions
  | .account => ⟨x.state.account, x.budget⟩

/-- The output scheduler's work, in RUN only: its five steps in their order, the commits of the enabled services from S0
to S3 (spec/07 R112). -/
def State.schedulerSteps (s : State) : List BoundaryStep :=
  if s.running then .deadlines :: s.enabledServices.map .commit ++ [.controls, .captions, .account] else []

/-- Tasks put between the pieces of the work: the first list before the first piece, the second before the second, and so
on; lists that find no piece left follow one another. -/
def interleave : List (List BoundaryTask) → List BoundaryStep → List BoundaryStep
  | [], work => work
  | g :: gs, [] => g.map .task ++ interleave gs []
  | g :: gs, w :: ws => g.map .task ++ w :: interleave gs ws

/-- Everything taken at a boundary, in the order of the command. A drop or a switch between the commit and step 4 of one
boundary cuts the cue that was just committed (spec/07 R126, spec/10 R164). Log 5. -/
def State.boundarySteps (s : State) (o : BoundaryOrder) : List BoundaryStep :=
  interleave o.between s.schedulerSteps ++ o.late.map .task

/-- What stands when the SMC has advanced: the unit and the anchor have advanced, the entries of the automation lists have
seen a boundary, and HOLDOVER_FRAMES is raised for a boundary made in holdover (R1, R3, R10, R13). -/
def State.advanceBoundary (s : State) (moment : Moment) : State :=
  let t := ({ s with ref := s.ref.advance moment }).armTimers
  t.raiseIf t.ref.inHoldover (plainEvent .holdoverFrames)

/-- A frame boundary at a moment: the last one is finished and the SMC advances; then the things of the boundary are taken
in the order `o`, and the levels are sampled once, after the first `o.sample` of them. The spec lets a close, a commit or
a drain at the same boundary be taken before or after the sample of CUE_QUEUE_LEVEL, INTAKE_LEVEL or FRAMES_CATCHUP
(spec/11 R169, spec/05 R90): the operand covers each of these orders (DESIGN CHOICE, log 5). -/
def State.frameBoundary (s : State) (moment : Moment) (o : BoundaryOrder) : State :=
  let t := s.finishBoundary.advanceBoundary moment
  let steps := t.boundarySteps o
  let x := (steps.take o.sample).foldl Sending.runStep ⟨t, t.budget⟩
  ((steps.drop o.sample).foldl Sending.runStep ⟨x.state.sampleLevels, x.budget⟩).state

/-! ### The command of the idle timer -/

/-- IDLE_DEADLINE_EXPIRY (spec/04 R63). -/
def execIdleDeadlineExpiry (k : Service) (s : State) : Host.Outcome State Fault Refusal := .next (s.expireIdle k)

end Sys2Proof.Machine
end

