-- ==== Sys2Proof/Config.lean ====
section
/-! DEFINITION. The values the spec leaves open: constants without a body, so that nothing can be proved of them. -/

namespace Sys2Proof.Config

/-- Whether the mean of spec/01 R9, of a given sum over a given number of intervals, is brought UP to the resolution
of the timebase where it is no whole number of ticks ("taken to the resolution of the internal timebase" states no
direction). FREE VALUE (log 2). -/
opaque meanRoundsUp : Nat → Nat → Bool

/-- The type byte in the response to a command frame that was cut off before its type byte (spec/12 R175, R176 give
none). The argument makes each one fresh. FREE VALUE (log 11). -/
opaque freeByte : Nat → Byte

end Sys2Proof.Config
end

