-- ==== Sys2Proof/Machine/Reference.lean ====
section
/-! DEFINITION. The reference unit (spec/01 R4 to R15): pulses, the loss of pulses, flywheel boundaries and frame labels;
and power-on reset (spec/12 R183). -/

namespace Sys2Proof.Machine

/-! ### Pulses (R4 to R8) -/

/-- The measured interval of a pulse arriving at a moment, when the record holds one (R4). -/
def RefUnit.interval (u : RefUnit) (moment : Moment) : Option Nat := u.pulseRecord.map fun r => moment - r

/-- The measured interval of a good pulse; none for a bad one (R4). -/
def RefUnit.goodPulse (u : RefUnit) (moment : Moment) : Option Nat :=
  (u.interval moment).bind fun i => if u.rate.goodInterval i then some i else none

/-- The pulse becomes the record, in every state (R4). -/
def RefUnit.recordPulse (u : RefUnit) (moment : Moment) : RefUnit := { u with pulseRecord := some moment }

/-- An interval joins the period history, which holds up to 16 (R4). -/
def joinHistory16 (h : List Nat) (i : Nat) : List Nat := keepNewest 16 (h ++ [i])

/-- A pulse arriving less than half a nominal period after the last frame boundary is swallowed (R7, R8). -/
def RefUnit.swallows (u : RefUnit) (moment : Moment) : Bool :=
  match u.lastBoundary with
  | none => false
  | some b => moment < b + u.rate.halfPeriod

/-- A good pulse in FREE or HOLDOVER moves the unit to QUALIFYING (R5, R10). -/
def RefUnit.startQualifying (u : RefUnit) (origin : RefOrigin) (i : Nat) : RefUnit :=
  { u with state := .qualifying, origin := some origin, goodCount := 1, history := [i] }

/-- The good count that brings LOCKED (R6, R7). -/
def lockCount : Nat := 64

/-- The flywheel stops and its pending boundary is cancelled (R7). -/
def RefUnit.lock (u : RefUnit) : RefUnit := { u with state := .locked, flywheel := none }

/-- A pulse in LOCKED, or the pulse that locks: it makes a frame boundary unless the guard swallows it (R7, R8). -/
def State.lockedBoundary (s : State) (swallowed : Bool) (moment : Moment) (order : BoundaryOrder) : State :=
  if swallowed then s else s.frameBoundary moment order

/-- A pulse in QUALIFYING (R6, R7). -/
def State.qualifyingPulse (s : State) (moment : Moment) (order : BoundaryOrder) : State :=
  let u := s.ref.recordPulse moment
  match s.ref.goodPulse moment with
  | none => { s with ref := { u with goodCount := 0, history := [] } }
  | some i =>
    let v := { u with goodCount := u.goodCount + 1, history := joinHistory16 u.history i }
    if v.goodCount = lockCount then
      (({ s with ref := v.lock }).setAlert .refLocked none).lockedBoundary (s.ref.swallows moment) moment order
    else { s with ref := v }

/-- A pulse in LOCKED (R8). -/
def State.lockedPulse (s : State) (moment : Moment) (order : BoundaryOrder) : State :=
  let u := s.ref.recordPulse moment
  if s.ref.swallows moment then { s with ref := u }
  else
    match s.ref.goodPulse moment with
    | none => ({ s with ref := u }).frameBoundary moment order
    | some i => ({ s with ref := { u with history := joinHistory16 u.history i } }).frameBoundary moment order

/-- A pulse in FREE or HOLDOVER (R5, R10): it makes no boundary. -/
def State.unlockedPulse (s : State) (origin : RefOrigin) (moment : Moment) : State :=
  let u := s.ref.recordPulse moment
  match s.ref.goodPulse moment with
  | none => { s with ref := u }
  | some i => { s with ref := u.startQualifying origin i }

/-- A reference pulse. -/
def State.pulse (s : State) (moment : Moment) (order : BoundaryOrder) : State :=
  match s.ref.state with
  | .free => s.unlockedPulse .free moment
  | .holdover => s.unlockedPulse .holdover moment
  | .qualifying => s.qualifyingPulse moment order
  | .locked => s.lockedPulse moment order

/-! ### Missing pulses and the loss of the reference (R6, R9) -/

/-- The state qualified from; FREE when none is held, which no run reaches in QUALIFYING. -/
def RefUnit.originState (u : RefUnit) : RefState :=
  match u.origin with
  | some .holdover => .holdover
  | _ => .free

/-- A missing pulse in QUALIFYING (R6). -/
def State.missPulse (s : State) : State :=
  match s.ref.state with
  | .qualifying => { s with ref := { s.ref with state := s.ref.originState, goodCount := 0, history := [] } }
  | _ => s

/-- The mean of the intervals of the period history, taken to the resolution of the timebase (R9). Where the mean is no
whole number of ticks the direction is a FREE VALUE (log 2). -/
def meanInterval (h : List Nat) : Nat :=
  if h.sum % h.length = 0 then h.sum / h.length
  else if Config.meanRoundsUp h.sum h.length then h.sum / h.length + 1
  else h.sum / h.length

/-- The moment at which the reference is lost: 1.5 nominal periods after the moment in the pulse record (R8). -/
def RefUnit.lossMoment (u : RefUnit) : Moment := u.pulseRecord.getD 0 + u.rate.lossWindow

/-- Entry to HOLDOVER from LOCKED (R9): the flywheel's further boundaries lie at T + k × H for k = 2, 3, ..., where T is
the moment of the last boundary made in LOCKED. -/
def RefUnit.enterHoldover (u : RefUnit) : RefUnit :=
  let h := meanInterval u.history
  { u with
    state := .holdover
    goodCount := 0
    holdoverPeriod := some h
    flywheel := some (u.lastBoundary.getD 0 + 2 * h) }

/-- Loss of the reference in LOCKED (R9): one boundary is made at once. -/
def State.loseReference (s : State) (order : BoundaryOrder) : State :=
  match s.ref.state with
  | .locked =>
    ((({ s with ref := s.ref.enterHoldover }).setAlert .refLost none).raise (plainEvent .referenceLoss)).frameBoundary
      s.ref.lossMoment order
  | _ => s

/-! ### The flywheel (R5, R6, R10) -/

/-- The flywheel period in force: the holdover period in HOLDOVER and in QUALIFYING entered from it, and the trimmed
nominal period otherwise (R5, R6, R10). -/
def RefUnit.flywheelPeriod (u : RefUnit) : Nat :=
  if u.inHoldover then u.holdoverPeriod.getD u.rate.nominal else u.rate.trimmed u.trim

/-- A flywheel period ends and makes a frame boundary; the next period begins (R1, R5, R6, R10). A flywheel that does
not run makes none (R7). -/
def State.flywheelTick (s : State) (order : BoundaryOrder) : State :=
  match s.ref.flywheel with
  | none => s
  | some m => ({ s with ref := { s.ref with flywheel := some (m + s.ref.flywheelPeriod) } }).frameBoundary m order

/-! ### Frame labels (R12, R13) -/

/-- A label whose fields are in range, in LOCKED, checked against the anchor (R13). -/
def State.checkLabel (s : State) (l : Label) : State :=
  if l.dropFrame then { s with ref := { s.ref with anchor := none } }
  else
    let n := labelFrame l s.ref.rate
    match s.ref.anchor with
    | none => { s with ref := { s.ref with anchor := some ⟨n, s.ref.smc, s.ref.phase⟩ } }
    | some a =>
      if a.frame = n then s
      else ({ s with ref := { s.ref with anchor := some { a with frame := n } } }).raise (plainEvent .labelJump)

/-- A frame label arrives (R12): it is used only in LOCKED, and discarded when its check fails or a field lies outside
its range. -/
def State.takeLabel (s : State) (checkOk : Bool) (l : Label) : State :=
  if s.ref.state = .locked ∧ checkOk = true ∧ labelInRange l s.ref.rate = true then s.checkLabel l else s

/-! ### The commands -/

/-- POWER_ON_RESET (R183): every block is put into its power-on state. The queue of commands, the record of what has
been sent and the index of free values are not the part's own state and stand (log 28). -/
def execPowerOnReset (s : State) : Host.Outcome State Fault Refusal :=
  .next { State.reset with pending := s.pending, sent := s.sent, freeIndex := s.freeIndex }

/-- REFERENCE_PULSE (R4). -/
def execReferencePulse (moment : Moment) (order : BoundaryOrder) (s : State) : Host.Outcome State Fault Refusal :=
  .next (s.pulse moment order)

/-- MISSING_PULSE (R6). -/
def execMissingPulse (s : State) : Host.Outcome State Fault Refusal := .next s.missPulse

/-- LOSS_OF_REFERENCE (R9). -/
def execLossOfReference (order : BoundaryOrder) (s : State) : Host.Outcome State Fault Refusal :=
  .next (s.loseReference order)

/-- FLYWHEEL_BOUNDARY (R1). -/
def execFlywheelBoundary (order : BoundaryOrder) (s : State) : Host.Outcome State Fault Refusal :=
  .next (s.flywheelTick order)

/-- FRAME_LABEL (R12). -/
def execFrameLabel (checkOk : Bool) (label : Label) (s : State) : Host.Outcome State Fault Refusal :=
  .next (s.takeLabel checkOk label)

end Sys2Proof.Machine
end

