-- ==== Sys2Proof/Machine/Parameters.lean ====
section
/-! DEFINITION. The parameters (spec/12 R178, R179): their places in the table, ranges, modes, and the effect of a write
by the rule that owns each. -/

namespace Sys2Proof.Machine

/-- The numeric parameters of a service: a range and no behaviour of their own at the write. -/
inductive ServiceNumber where
  | rowWidth
  | rowsPerCue
  | idleClose
  | delay
  | lead
  | closeMargin
  | minReading
  | catchupFloor
  | readingRate
  | gap
  | lateLimit
  | maxHold
  | weight
  | baseRow
  | topRow
  deriving DecidableEq, Repr

/-- The numeric parameters of a port. -/
inductive PortNumber where
  | lag
  | holdTime
  | hw
  | lw
  deriving DecidableEq, Repr

/-- A parameter of the part, with the member of the block that holds it. -/
inductive Param where
  | frameRate
  | trim
  | silenceTimeout
  | portKind (p : Port)
  | portGroup (p : Port)
  | portNumber (p : Port) (n : PortNumber)
  | flowControl (p : Port)
  | yieldTimeout (g : Group)
  | failover (g : Group)
  | serviceEnable (k : Service)
  | route (k : Service)
  | serviceNumber (k : Service) (n : ServiceNumber)
  | schedMode
  | budget
  | regionFirst (r : RegionName)
  | regionCount (r : RegionName)
  deriving DecidableEq, Repr

/-! ### Places in the table (R179, step 1) -/

/-- A parameter held per port, with its index. -/
def onPort (index : Nat) (f : Port → Param) : Except Code Param :=
  if h : index < 8 then .ok (f ⟨index, h⟩) else .error .range

/-- A parameter held per group, with its index. -/
def onGroup (index : Nat) (f : Group → Param) : Except Code Param :=
  if h : index < 4 then .ok (f ⟨index, h⟩) else .error .range

/-- A parameter held per service, with its index. -/
def onService (index : Nat) (f : Service → Param) : Except Code Param :=
  if h : index < 4 then .ok (f ⟨index, h⟩) else .error .range

/-- A region parameter: index 0..7 for P0..P7, 8..11 for S0..S3 and 12 for the pool. -/
def onRegion (index : Nat) (f : RegionName → Param) : Except Code Param :=
  if h : index < 8 then .ok (f (.port ⟨index, h⟩))
  else if h : index - 8 < 4 then .ok (f (.service ⟨index - 8, h⟩))
  else if index = 12 then .ok (f .pool)
  else .error .range

/-- The parameter at a row place and member number of the table of R178, counted from 1, with an index. -/
def resolve (row member index : Nat) : Except Code Param :=
  match row, member with
  | 1, 1 => .ok .frameRate
  | 2, 1 => .ok .trim
  | 3, 1 => .ok .silenceTimeout
  | 4, 1 => onPort index .portKind
  | 5, 1 => onPort index .portGroup
  | 6, 1 => onPort index fun p => .portNumber p .lag
  | 7, 1 => onPort index fun p => .portNumber p .holdTime
  | 8, 1 => onPort index .flowControl
  | 9, 1 => onPort index fun p => .portNumber p .hw
  | 9, 2 => onPort index fun p => .portNumber p .lw
  | 10, 1 => onGroup index .yieldTimeout
  | 11, 1 => onGroup index .failover
  | 12, 1 => onService index .serviceEnable
  | 13, 1 => onService index .route
  | 14, 1 => onService index fun k => .serviceNumber k .rowWidth
  | 15, 1 => onService index fun k => .serviceNumber k .rowsPerCue
  | 16, 1 => onService index fun k => .serviceNumber k .idleClose
  | 17, 1 => onService index fun k => .serviceNumber k .delay
  | 17, 2 => onService index fun k => .serviceNumber k .lead
  | 17, 3 => onService index fun k => .serviceNumber k .closeMargin
  | 17, 4 => onService index fun k => .serviceNumber k .minReading
  | 17, 5 => onService index fun k => .serviceNumber k .catchupFloor
  | 17, 6 => onService index fun k => .serviceNumber k .readingRate
  | 17, 7 => onService index fun k => .serviceNumber k .gap
  | 17, 8 => onService index fun k => .serviceNumber k .lateLimit
  | 17, 9 => onService index fun k => .serviceNumber k .maxHold
  | 18, 1 => onService index fun k => .serviceNumber k .weight
  | 19, 1 => onService index fun k => .serviceNumber k .baseRow
  | 19, 2 => onService index fun k => .serviceNumber k .topRow
  | 20, 1 => .ok .schedMode
  | 21, 1 => .ok .budget
  | 22, 1 => onRegion index .regionFirst
  | 22, 2 => onRegion index .regionCount
  | _, _ => .error .unknown

/-! ### Reading -/

/-- The value a port's numeric parameter holds. -/
def PortNumber.read (n : PortNumber) (par : PortParams) : Nat :=
  match n with
  | .lag => par.lag
  | .holdTime => par.holdTime
  | .hw => par.hw
  | .lw => par.lw

/-- The value a service's numeric parameter holds. -/
def ServiceNumber.read (n : ServiceNumber) (par : ServiceParams) : Nat :=
  match n with
  | .rowWidth => par.rowWidth
  | .rowsPerCue => par.rowsPerCue
  | .idleClose => par.idleClose
  | .delay => par.delay
  | .lead => par.lead
  | .closeMargin => par.closeMargin
  | .minReading => par.minReading
  | .catchupFloor => par.catchupFloor
  | .readingRate => par.readingRate
  | .gap => par.gap
  | .lateLimit => par.lateLimit
  | .maxHold => par.maxHold
  | .weight => par.weight
  | .baseRow => par.baseRow
  | .topRow => par.topRow

/-- The region pair of a collection as written (spec/06 R98). -/
def State.regionOf (s : State) : RegionName → Region
  | .port p => (s.port p).par.region
  | .service k => (s.service k).par.region
  | .pool => s.poolRegion

/-- The value a parameter holds (R179). -/
def Param.read (x : Param) (s : State) : ParamValue :=
  match x with
  | .frameRate => .num s.ref.rate.fps
  | .trim => .num s.ref.trim
  | .silenceTimeout => .num s.silenceTimeout
  | .portKind p => .kind (s.port p).par.kind
  | .portGroup p => .group (s.port p).par.group
  | .portNumber p n => .num (n.read (s.port p).par)
  | .flowControl p => .enabled (s.port p).par.flowControl
  | .yieldTimeout g => .num (s.group g).yieldTimeout
  | .failover g => .enabled (s.group g).failover
  | .serviceEnable k => .enabled (s.service k).par.enabled
  | .route k => .group (s.service k).par.route
  | .serviceNumber k n => .num (n.read (s.service k).par)
  | .schedMode => .mode s.schedMode
  | .budget => .num s.budget
  | .regionFirst r => .num (s.regionOf r).first
  | .regionCount r => .num (s.regionOf r).count

/-! ### Modes and ranges (R178; R179, steps 2 and 3) -/

/-- The parameter may be written in RUN; every parameter may be written in CONFIG. -/
def Param.writableInRun : Param → Bool
  | .frameRate => false
  | .portKind _ => false
  | .portGroup _ => false
  | .portNumber _ .hw => false
  | .portNumber _ .lw => false
  | .serviceEnable _ => false
  | .regionFirst _ => false
  | .regionCount _ => false
  | _ => true

/-- The range of a port's numeric parameter; a watermark of 0 is automatic. -/
def PortNumber.range : PortNumber → Nat × Nat
  | .lag => (0, 4000)
  | .holdTime => (100, 5000)
  | .hw => (0, 16384)
  | .lw => (0, 16383)

/-- The range of a service's numeric parameter; M and M_f bound each other (spec/05 R78). -/
def ServiceNumber.range (n : ServiceNumber) (par : ServiceParams) : Nat × Nat :=
  match n with
  | .rowWidth => (28, 42)
  | .rowsPerCue => (1, 2)
  | .idleClose => (500, 5000)
  | .delay => (0, 12000)
  | .lead => (0, 1000)
  | .closeMargin => (80, 1000)
  | .minReading => (max 500 par.catchupFloor, 5000)
  | .catchupFloor => (300, par.minReading)
  | .readingRate => (8, 30)
  | .gap => (0, 200)
  | .lateLimit => (1000, 10000)
  | .maxHold => (2000, 10000)
  | .weight => (1, 8)
  | .baseRow => (2, 15)
  | .topRow => (1, 14)

/-- A number lies in a range, ends included. -/
def inRange (r : Nat × Nat) (v : Int) : Bool := (r.1 : Int) ≤ v && v ≤ (r.2 : Int)

/-- The value lies in the parameter's range. -/
def Param.accepts (x : Param) (s : State) (v : ParamValue) : Bool :=
  match x, v with
  | .frameRate, .num n => (Rate.ofFps n).isSome
  | .trim, .num n => decide (-32 ≤ n) && decide (n ≤ 31)
  | .silenceTimeout, .num n => inRange (1000, 10000) n
  | .portKind _, .kind _ => true
  | .portGroup _, .group _ => true
  | .portNumber _ m, .num n => inRange m.range n
  | .flowControl _, .enabled _ => true
  | .yieldTimeout _, .num n => inRange (1000, 10000) n
  | .failover _, .enabled _ => true
  | .serviceEnable _, .enabled _ => true
  | .route _, .group _ => true
  | .serviceNumber k m, .num n => inRange (m.range (s.service k).par) n
  | .schedMode, .mode _ => true
  | .budget, .num n => inRange (96, 512) n
  | .regionFirst _, .num n => inRange (0, 255) n
  | .regionCount _, .num n => inRange (0, 256) n
  | _, _ => false

/-! ### Writing -/

/-- A port's numeric parameter replaced. -/
def PortNumber.write (n : PortNumber) (par : PortParams) (v : Nat) : PortParams :=
  match n with
  | .lag => { par with lag := v }
  | .holdTime => { par with holdTime := v }
  | .hw => { par with hw := v }
  | .lw => { par with lw := v }

/-- A service's numeric parameter replaced. -/
def ServiceNumber.write (n : ServiceNumber) (par : ServiceParams) (v : Nat) : ServiceParams :=
  match n with
  | .rowWidth => { par with rowWidth := v }
  | .rowsPerCue => { par with rowsPerCue := v }
  | .idleClose => { par with idleClose := v }
  | .delay => { par with delay := v }
  | .lead => { par with lead := v }
  | .closeMargin => { par with closeMargin := v }
  | .minReading => { par with minReading := v }
  | .catchupFloor => { par with catchupFloor := v }
  | .readingRate => { par with readingRate := v }
  | .gap => { par with gap := v }
  | .lateLimit => { par with lateLimit := v }
  | .maxHold => { par with maxHold := v }
  | .weight => { par with weight := v }
  | .baseRow => { par with baseRow := v }
  | .topRow => { par with topRow := v }

/-- A port's parameters replaced. -/
def State.setPortPar (s : State) (p : Port) (par : PortParams) : State := s.setPort p { s.port p with par := par }

/-- A service's parameters replaced. -/
def State.setServicePar (s : State) (k : Service) (par : ServiceParams) : State :=
  s.setService k { s.service k with par := par }

/-- A change of the frame rate (spec/01 R11): the unit goes to FREE and the flywheel restarts at the moment of the
write. The SMC, the trim, the state qualified from and the holdover period keep their values (log 17). -/
def RefUnit.changeRate (u : RefUnit) (moment : Moment) (r : Rate) : RefUnit :=
  { u with
    state := .free
    rate := r
    phase := 0
    goodCount := 0
    history := []
    pulseRecord := none
    anchor := none
    flywheel := some (moment + r.trimmed u.trim) }

/-- A write of the frame rate; a write of the value in force leaves the unit as it was (spec/01 R11). -/
def State.writeRate (s : State) (moment : Moment) (r : Rate) : State :=
  if r = s.ref.rate then s else { s with ref := s.ref.changeRate moment r }

/-- A write of flow control (spec/02 R34): disabling it on a HELD port sends RESUME at once. -/
def State.writeFlowControl (s : State) (p : Port) (b : Bool) : State :=
  let t := s.setPortPar p { (s.port p).par with flowControl := b }
  if b = false ∧ (s.port p).flow = .held then t.sendResume p else t

/-- A write of a configured route (spec/03 R53, spec/06 R99): in RUN it also sets the live route of an enabled
service. -/
def State.writeRoute (s : State) (k : Service) (g : Option Group) : State :=
  let t := s.setServicePar k { (s.service k).par with route := g }
  if s.running && (s.service k).par.enabled then t.changeRoute k g else t

/-- A write of the scheduling mode (spec/07 R120): a change sets every deficit to 0 and the position to S3. -/
def State.writeSchedMode (s : State) (m : SchedMode) : State :=
  if m = s.schedMode then s
  else
    { s with
      schedMode := m
      roundRobin := 3
      services := s.services.map fun v => { v with deficit := 0 } }

/-- Every package is discarded, and every load context becomes none (spec/06 R101, spec/10 R155). -/
def State.discardPackages (s : State) : State :=
  { s with packages := List.replicate 32 none, ports := s.ports.map fun x => { x with load := .idle } }

/-- A write of the pool region (spec/06 R101): a change discards every package. -/
def State.writePool (s : State) (r : Region) : State :=
  if r = s.poolRegion then s else { s.discardPackages with poolRegion := r }

/-- A write of a region pair. -/
def State.writeRegion (s : State) (name : RegionName) (r : Region) : State :=
  match name with
  | .port p => s.setPortPar p { (s.port p).par with region := r }
  | .service k => s.setServicePar k { (s.service k).par with region := r }
  | .pool => s.writePool r

/-- The effect of a write that is taken, by the rule that owns the parameter. `moment` is read by a write of the frame
rate alone. A value of another shape never reaches this operation, because `Param.accepts` refuses it. -/
def Param.write (x : Param) (moment : Moment) (v : ParamValue) (s : State) : State :=
  match x, v with
  | .frameRate, .num n => match Rate.ofFps n with | none => s | some r => s.writeRate moment r
  | .trim, .num n => { s with ref := { s.ref with trim := n } }
  | .silenceTimeout, .num n => { s with silenceTimeout := n.toNat }
  | .portKind p, .kind k => s.setPortPar p { (s.port p).par with kind := k }
  | .portGroup p, .group g => s.setPortPar p { (s.port p).par with group := g }
  | .portNumber p m, .num n => s.setPortPar p (m.write (s.port p).par n.toNat)
  | .flowControl p, .enabled b => s.writeFlowControl p b
  | .yieldTimeout g, .num n => s.setGroup g { s.group g with yieldTimeout := n.toNat }
  | .failover g, .enabled b => s.setGroup g { s.group g with failover := b }
  | .serviceEnable k, .enabled b => s.setServicePar k { (s.service k).par with enabled := b }
  | .route k, .group g => s.writeRoute k g
  | .serviceNumber k m, .num n => s.setServicePar k (m.write (s.service k).par n.toNat)
  | .schedMode, .mode m => s.writeSchedMode m
  | .budget, .num n => { s with budget := n.toNat }
  | .regionFirst r, .num n => s.writeRegion r { s.regionOf r with first := n.toNat }
  | .regionCount r, .num n => s.writeRegion r { s.regionOf r with count := n.toNat }
  | _, _ => s

end Sys2Proof.Machine
end

