-- ==== Sys2Proof/Machine/Wire.lean ====
section
/-! DEFINITION. What stands on the framed links (spec/12, Frame formats): the type codes of the messages that the part sends
and takes, the supervisory commands behind the types 0x80 to 0x92, and the bytes of a SHOW. The contributor messages to the
part are in Operands.lean. -/

namespace Sys2Proof.Machine

/-! ### Contributor and automation links -/

/-- The type code of a message to a workstation (spec/12, Message types). -/
def PortMsg.type : PortMsg → Byte
  | .state _ _ => 0x20
  | .hold _ => 0x21
  | .resume => 0x22
  | .takeAnswer _ _ => 0x23
  | .releaseAnswer _ => 0x24
  | .retractAnswer _ _ _ => 0x25
  | .packageAnswer _ _ => 0x26

/-- The type code of an automation EVENT (spec/12, Message types). -/
def eventType : Byte := 0x30

/-- The type code of an automation ANSWER (spec/12, Message types). -/
def Answer.type (_ : Answer) : Byte := 0x31

/-! ### The output link -/

/-- The type code of a message to the inserter (spec/12, Message types). -/
def OutputMsg.type : OutputMsg → Byte
  | .showCue _ _ _ _ _ _ _ _ => 0x40
  | .clear _ => 0x41
  | .move _ _ => 0x42

/-- The inserter's answer behind a type code: READY or BUSY (spec/12, Message types); a frame of any other type is dropped
(spec/07 R124). -/
def inserterAnswer (b : Byte) : Option Inserter :=
  match b.toNat with
  | 0x48 => some .ready
  | 0x49 => some .busy
  | _ => none

/-- A count or a place on a link, in one byte. -/
def byteOf (n : Nat) : Byte := BitVec.ofNat 8 n

/-- The flags byte of a SHOW: bit 0 SPEAKER, bit 1 TRUNCATED. -/
def showFlags (speaker truncated : Bool) : Byte := byteOf (speaker.toNat + 2 * truncated.toNat)

/-- The second row of a SHOW payload, which stands there when the height is 2: its length and its text. -/
def showRow2 (height : Nat) (row2 : Option Text) : List Byte :=
  if height = 2 then byteOf (row2.getD []).length :: row2.getD [] else []

/-- The payload of a message to the inserter (spec/12, SHOW). CLEAR and MOVE have no layout in the spec (log 31). -/
def OutputMsg.payload : OutputMsg → Option (List Byte)
  | .showCue k id source band speaker truncated row1 row2 =>
    some (byteOf k.val :: bytes16 (BitVec.ofNat 16 id) ++ bytes16 (source.getD 0) ++
      [byteOf band.top, byteOf band.height, showFlags speaker truncated, byteOf row1.length] ++ row1 ++
      showRow2 band.height row2)
  | .clear _ => none
  | .move _ _ => none

/-- The frame of a message to the inserter, for a message that has a layout. -/
def OutputMsg.frame (m : OutputMsg) : Option (List Byte) := m.payload.map (buildFrame m.type)

/-- The frames of the SHOWs that have left on the output link, oldest first (spec/07 R122, R128). -/
def State.showFrames (s : State) : List (List Byte) := s.sent.output.filterMap OutputMsg.frame

/-! ### The supervisory link -/

/-- The supervisory commands, in the order of the command table (spec/12 R177). -/
inductive SupervisoryCommand where
  | parameterRead
  | parameterWrite
  | start
  | stop
  | flushPort
  | flushService
  | counterSelect
  | counterClear
  | counterRead
  | alertStatus
  | alertClear
  | alertEnable
  | referenceStatus
  | portStatus
  | groupStatus
  | serviceStatus
  | layoutStatus
  | automationStatus
  | packageStatus
  deriving DecidableEq, Repr

/-- The type code of a command and of its response (spec/12, Message types). -/
def SupervisoryCommand.type : SupervisoryCommand → Byte
  | .parameterRead => 0x80
  | .parameterWrite => 0x81
  | .start => 0x82
  | .stop => 0x83
  | .flushPort => 0x84
  | .flushService => 0x85
  | .counterSelect => 0x86
  | .counterClear => 0x87
  | .counterRead => 0x88
  | .alertStatus => 0x89
  | .alertClear => 0x8A
  | .alertEnable => 0x8B
  | .referenceStatus => 0x8C
  | .portStatus => 0x8D
  | .groupStatus => 0x8E
  | .serviceStatus => 0x8F
  | .layoutStatus => 0x90
  | .automationStatus => 0x91
  | .packageStatus => 0x92

/-- The command that a type code names (spec/12, Message types; R175). -/
def supervisoryCommand (b : Byte) : Option SupervisoryCommand :=
  match b.toNat with
  | 0x80 => some .parameterRead
  | 0x81 => some .parameterWrite
  | 0x82 => some .start
  | 0x83 => some .stop
  | 0x84 => some .flushPort
  | 0x85 => some .flushService
  | 0x86 => some .counterSelect
  | 0x87 => some .counterClear
  | 0x88 => some .counterRead
  | 0x89 => some .alertStatus
  | 0x8A => some .alertClear
  | 0x8B => some .alertEnable
  | 0x8C => some .referenceStatus
  | 0x8D => some .portStatus
  | 0x8E => some .groupStatus
  | 0x8F => some .serviceStatus
  | 0x90 => some .layoutStatus
  | 0x91 => some .automationStatus
  | 0x92 => some .packageStatus
  | _ => none

end Sys2Proof.Machine
end

