-- ==== Sys2Proof/Machine/Supervisory.lean ====
section
/-! DEFINITION. The supervisory unit (spec/12): transactions and responses, START and STOP, and the command set. -/

namespace Sys2Proof.Machine

/-! ### Transactions and responses (R175, R176) -/

/-- A transaction begins. While a command is still executing it shifts out zero bytes, its own command will be
discarded, and the overrun flag is set. Otherwise it shifts out the buffer, which is then empty, and deasserts the
response-ready line; the overrun flag is cleared when a response is read. -/
def Supervisory.begin (u : Supervisory) : Supervisory :=
  match u.executing with
  | some _ => { u with overrun := true, transaction := .discarding }
  | none =>
    { u with
      buffer := none
      ready := false
      overrun := u.overrun && u.buffer.isNone
      transaction := .carrying }

/-- What a transaction that begins now shifts out. -/
def Supervisory.shifted (u : Supervisory) : Option Response :=
  match u.executing with
  | some _ => none
  | none => u.buffer

/-- A transaction begins (R175). -/
def State.beginTransaction (s : State) : State :=
  { s with sup := s.sup.begin, sent := { s.sent with spi := s.sent.spi ++ [s.sup.shifted] } }

/-- A command is carried by a transaction: where none is under way, one begins with the command (log 10). -/
def State.carrier (s : State) : State :=
  match s.sup.transaction with
  | .none => s.beginTransaction
  | _ => s

/-- What the execution of a command gives: the state, the response code and the fields returned. -/
structure Reply where
  state : State
  code : Code
  fields : ResponseFields

/-- A command with nothing further to return. -/
def done (s : State) : Reply := ⟨s, .ok, .none⟩

/-- A refused command changes no state (R176). -/
def refuse (s : State) (c : Code) : Reply := ⟨s, c, .none⟩

/-- A command that returns a record and changes nothing. -/
def report (s : State) (f : ResponseFields) : Reply := ⟨s, .ok, f⟩

/-- The response of a reply, with the SMC at the moment of execution. Its overrun flag is filled in when the execution
ends. -/
def Reply.response (r : Reply) (type : Byte) : Response := ⟨type, r.code, false, r.state.now, r.fields⟩

/-- Executes a command at the end of its transaction (R175, R176): a command whose transaction began while another was
executing is discarded without a response. -/
def State.command (s : State) (type : Byte) (act : State → Reply) : State :=
  let t := s.carrier
  match t.sup.transaction with
  | .discarding => { t with sup := { t.sup with transaction := .none } }
  | _ =>
    let r := act t
    { r.state with sup := { r.state.sup with executing := some (r.response type), transaction := .none } }

/-- The execution of a command ends: its response fills the buffer, carrying the overrun flag, and the response-ready
line is asserted (R175). -/
def Supervisory.finish (u : Supervisory) : Supervisory :=
  match u.executing with
  | none => u
  | some r => { u with buffer := some { r with overrun := u.overrun }, ready := true, executing := none }

/-- A member number inside a range. -/
def withIndex (s : State) (n limit : Nat) (act : Fin limit → Reply) : Reply :=
  if h : n < limit then act ⟨n, h⟩ else refuse s .range

/-- A command taken in one mode only is refused with MODE in the other (R177). -/
def inMode (s : State) (m : Mode) (act : Reply) : Reply := if s.mode = m then act else refuse s .mode

/-! ### Parameters (R179) -/

/-- PARAMETER READ: checked by step 1 alone. -/
def readParam (row member index : Nat) (s : State) : Reply :=
  match resolve row member index with
  | .error c => refuse s c
  | .ok x => report s (.value (x.read s))

/-- Steps 2 and 3 of a PARAMETER WRITE, and the write. -/
def writeChecked (x : Param) (moment : Moment) (v : ParamValue) (s : State) : Reply :=
  if s.running && !x.writableInRun then refuse s .mode
  else if !x.accepts s v then refuse s .range
  else ⟨x.write moment v s, .ok, .value (x.read (x.write moment v s))⟩

/-- PARAMETER WRITE. -/
def writeParam (row member index : Nat) (moment : Moment) (v : ParamValue) (s : State) : Reply :=
  match resolve row member index with
  | .error c => refuse s c
  | .ok x => writeChecked x moment v s

/-! ### The layout check and START (spec/06 R99, R100; R181) -/

/-- A region taken by the layout check. -/
structure Taken where
  name : RegionName
  region : Region
  deriving DecidableEq, Repr

/-- The regions taken by the check, in the order P0 to P7, S0 to S3, pool (spec/06 R99, R100). -/
def State.takenRegions (s : State) : List Taken :=
  (allPorts.filter fun p => (s.port p).par.kind != .unused).map (fun p => ⟨.port p, (s.port p).par.region⟩) ++
    (allServices.filter fun k => (s.service k).par.enabled).map (fun k => ⟨.service k, (s.service k).par.region⟩) ++
    (if (allPorts.any fun p => (s.port p).par.kind == .script) || s.poolRegion.count != 0 then
      [⟨.pool, s.poolRegion⟩] else [])

/-- Two regions share a block. -/
def Region.shares (a b : Region) : Bool :=
  0 < a.count && 0 < b.count && a.first < b.first + b.count && b.first < a.first + a.count

/-- The three tests on one region (spec/06 R100). The spec says which region decides and not which failure is named where one
region fails two tests, which only BOUNDS and OVERLAP can: the tests are made in the order of their table, so BOUNDS is named
(DESIGN CHOICE, log 36). -/
def regionFailure (all : List Taken) (x : Taken) : Option LayoutFailure :=
  if x.region.count = 0 then some .missing
  else if 256 < x.region.first + x.region.count then some .bounds
  else if all.any fun y => y.name != x.name && x.region.shares y.region then some .overlap
  else none

/-- The first region that fails a test decides the refusal (spec/06 R100). -/
def layoutCheck (all : List Taken) : Option (RegionName × LayoutFailure) :=
  all.findSome? fun x => (regionFailure all x).map fun f => (x.name, f)

/-- The region of a collection, if the check takes it. -/
def takenRegion (all : List Taken) (n : RegionName) : Option Region :=
  (all.find? fun x => x.name == n).map Taken.region

/-- The layout that a START puts in force (spec/06 R101). -/
def layoutOf (all : List Taken) : Layout where
  ports := Per8.tabulate fun p => takenRegion all (.port p)
  services := Per4.tabulate fun k => takenRegion all (.service k)
  pool := takenRegion all .pool

/-- The watermarks in force for a capacity: the automatic values, or the pair written when it satisfies
1 ≤ LW < HW ≤ capacity (spec/02 R30). -/
def watermarks (hw lw capacity : Nat) : Nat × Nat :=
  if 1 ≤ lw ∧ lw < hw ∧ hw ≤ capacity then (hw, lw) else (capacity * 3 / 4, capacity / 4)

/-- A port with its watermarks fixed at START; a port without a region has none (log 23). -/
def PortState.started (x : PortState) (r : Option Region) : PortState :=
  { x with marks := r.map fun b => watermarks x.par.hw x.par.lw b.capacity }

/-- A service with its live route set at START (spec/03 R53, spec/06 R99). -/
def ServiceState.started (v : ServiceState) : ServiceState :=
  { v with liveRoute := if v.par.enabled then v.par.route else none }

/-- A START that passes the layout check (R181). -/
def State.enterRun (s : State) : State :=
  let all := s.takenRegions
  { s with
    mode := .run
    layout := some (layoutOf all)
    ports := Per8.tabulate fun p => (s.port p).started (takenRegion all (.port p))
    services := s.services.map ServiceState.started }

/-- START (R181). -/
def startPart (s : State) : Reply :=
  match layoutCheck s.takenRegions with
  | some (n, f) => ⟨s, .layout, .layoutFailure n f⟩
  | none => done s.enterRun

/-! ### STOP (R182) -/

/-- A port after STOP (spec/02 R36, spec/04 R76, spec/10 R165). -/
def PortState.stopped (x : PortState) : PortState :=
  { x with
    link := .offline
    lastHeard := none
    silence := none
    window := []
    queue := []
    flow := .flowing
    refresh := none
    history := []
    load := .idle }

/-- A group after STOP (spec/03 R56). -/
def GroupState.stopped (g : GroupState) : GroupState :=
  { g with
    onAir := none
    taking := none
    yielding := none
    cut := none
    grant := none
    yieldDeadline := none }

/-- A service after STOP (spec/03 R56, spec/04 R76, spec/05 R95, spec/06 R109, spec/07 R127, spec/08 R138, spec/09 R153,
spec/10 R165): its parameters and its cue id counter are kept. -/
def ServiceState.stopped (v : ServiceState) : ServiceState :=
  { ServiceState.reset with par := v.par, liveRoute := v.par.route, cueCounter := v.cueCounter }

/-- READY packages stay; a LOADING one is discarded (spec/10 R165). -/
def packagesStopped (t : List (Option PackageRecord)) : List (Option PackageRecord) :=
  t.map fun o => match o with
    | none => none
    | some r => if r.state = .ready then some r else none

/-- The CLEARs of STOP: one for each SHOWING service, S0 to S3 (spec/07 R127). -/
def State.stopClears (s : State) : List OutputMsg :=
  (allServices.filter fun k => (s.service k).display != .blank).map .clear

/-- STOP in RUN (R182). -/
def State.leaveRun (s : State) : State :=
  { s with
    mode := .config
    sent := { s.sent with output := s.sent.output ++ s.stopClears }
    ports := s.ports.map PortState.stopped
    groups := s.groups.map GroupState.stopped
    services := s.services.map ServiceState.stopped
    roundRobin := 3
    busyCount := 0
    events := []
    packages := packagesStopped s.packages }

/-! ### FLUSH (spec/06 R107, R108) -/

/-- FLUSH PORT empties the intake queue; the flush is a removal for flow control. -/
def flushPortQueue (s : State) (p : Port) : Reply :=
  ⟨(s.setPort p { s.port p with queue := [] }).afterRemoval p, .ok, .count (s.port p).queue.length⟩

/-- The ids of the cues a FLUSH SERVICE discards: the open cue, if there is one, and the queue. -/
def ServiceState.flushed (v : ServiceState) : List CueId :=
  (v.openCue.map fun o => o.body.id).toList ++ v.queue.map fun c => c.body.id

/-- FLUSH SERVICE discards the open cue and the cue queue, and every placement that names one of them becomes GONE. -/
def flushServiceCues (s : State) (k : Service) : Reply :=
  let v := s.service k
  ⟨v.flushed.foldl (fun t id => t.markCue k id .gone) (s.setService k { v with openCue := none, queue := [] }), .ok,
    .count v.flushed.length⟩

/-! ### Counters (spec/11 R171) -/

/-- COUNTER SELECT. -/
def selectCounter (s : State) (n : Nat) (f : SelectionFields) : Reply :=
  withIndex s n 8 fun i =>
    match Counter.select? f with
    | none => refuse s .range
    | some c => done { s with counters := s.counters.set i c }

/-- COUNTER CLEAR. -/
def clearCounter (s : State) (n : Nat) : Reply :=
  withIndex s n 8 fun i => done { s with counters := s.counters.set i (s.counters.get i).clear }

/-- COUNTER READ: reports the eight records and clears the named ones in one step. -/
def readCounters (s : State) (named : Per8 Bool) : Reply :=
  ⟨{ s with counters := clearNamed s.counters named }, .ok, .counters s.counters⟩

/-! ### Status records (R177) -/

/-- The fields of REFERENCE STATUS (spec/01 R11). -/
def State.referenceStatus (s : State) : ReferenceStatus where
  state := s.ref.state
  origin := s.ref.origin
  goodCount := s.ref.goodCount
  smc := s.ref.smc
  phase := s.ref.phase
  anchorValid := s.ref.anchor.isSome
  anchorLabel := s.ref.anchor.map fun a => labelOfFrame a.frame s.ref.rate

/-- The fields of PORT STATUS. -/
def State.portStatus (s : State) (p : Port) : PortStatus where
  link := (s.port p).link
  window := (s.port p).window
  estimate := estimate (s.port p).window
  occupancy := (s.port p).queue.length
  marks := (s.port p).marks
  flow := (s.port p).flow
  historyEntries := (s.port p).history.length
  load := (s.port p).load

/-- The fields of GROUP STATUS (spec/03 R37). -/
def State.groupStatus (s : State) (g : Group) : GroupStatus where
  onAir := (s.group g).onAir
  taking := (s.group g).taking
  yielding := (s.group g).yielding
  cut := (s.group g).cut
  grant := (s.group g).grant
  yieldDeadline := (s.group g).yieldDeadline

/-- What the status reports of an open cue (spec/04 R57). -/
def OpenCue.status (o : OpenCue) : OpenStatus :=
  ⟨o.body.id, rowLength o.body.row1, rowLength o.body.row2, o.body.count⟩

/-- What the status reports of a queued cue (spec/06 R102). -/
def CueRecord.status (c : CueRecord) : CueId × Smc := (c.body.id, c.present)

/-- What the status reports of a display (spec/07 R110). -/
def Display.status (d : Display) : Option DisplayStatus :=
  d.record?.map fun r => ⟨r.cueId, r.source, r.band, r.shown⟩

/-- What the status reports of a play pointer: a position, or past the end (spec/10 R162). -/
def State.pointerStatus (s : State) (q : PlayPointer) : PackageId × Option Nat × Smc :=
  let count := ((s.findPackage q.package).map fun r => r.cues.length).getD 0
  (q.package, if q.pos ≤ count then some q.pos else none, q.switch)

/-- The fields of SERVICE STATUS. -/
def State.serviceStatus (s : State) (k : Service) : ServiceStatus :=
  let v := s.service k
  { par := v.par
    liveRoute := v.liveRoute
    openCue := v.openCue.map OpenCue.status
    phase := v.phase
    lastLateness := v.lastLateness
    occupancy := v.queue.length
    head := v.queue.head?.map CueRecord.status
    tail := v.queue.getLast?.map CueRecord.status
    display := v.display.status
    control := v.control
    shownLateness := v.shownLateness
    deficit := v.deficit
    schedMode := s.schedMode
    budget := s.budget
    roundRobin := s.roundRobin
    rowMap := v.rowMap
    segCurrent := v.segCurrent
    segPrevious := v.segPrevious
    lastChange := v.lastChange
    switches := v.switches.map fun e => (e.switch, e.body)
    kindInForce := v.kindInForce
    liveStart := v.liveStart
    lastSwitch := v.lastSwitch
    pointer := v.pointer.map s.pointerStatus }

/-- The fields of LAYOUT STATUS (spec/06 R98). -/
def State.layoutStatus (s : State) : LayoutStatus where
  ports := s.ports.map fun x => x.par.region
  services := s.services.map fun v => v.par.region
  pool := s.poolRegion
  inForce := s.layout

/-- The kind of a pending automation entry. -/
def EventBody.tag : EventBody → EventTag
  | .segment _ => .segment
  | .strap _ _ => .strap
  | .route _ => .route
  | .delay _ => .delay

/-- What AUTOMATION STATUS returns (spec/09 R141). -/
def State.automationStatus (s : State) : List (Smc × EventTag × Service) :=
  s.events.map fun e => (e.effect, e.body.tag, e.service)

/-- What PACKAGE STATUS returns of a slot (spec/10 R154). -/
def State.slotStatus (s : State) (r : PackageRecord) : PackageStatus :=
  ⟨r.id, r.state, r.declared, r.cues.length, r.loadingPort, s.playingOn r.id⟩

/-- What PACKAGE STATUS returns (spec/10 R154). -/
def State.packageStatus (s : State) : ResponseFields :=
  .packages (s.packages.map fun o => o.map s.slotStatus) (poolUse s.packages)

/-! ### The commands -/

/-- TRANSACTION_START (R175). -/
def execTransactionStart (s : State) : Host.Outcome State Fault Refusal := .next s.beginTransaction

/-- RESPONSE_READY (R175). -/
def execResponseReady (s : State) : Host.Outcome State Fault Refusal := .next { s with sup := s.sup.finish }

/-- The type that a CHECK response carries: the type byte of the failed frame, or a FREE VALUE where the frame was cut
off before it (log 11). The free value's index advances. -/
def checkReply (type : Option Byte) (s : State) : State :=
  match type with
  | some t => s.command t fun u => refuse u .check
  | none =>
    ({ s with freeIndex := s.freeIndex + 1 }).command (Config.freeByte s.freeIndex) fun u => refuse u .check

/-- COMMAND_CHECK_FAILED (R175): the bytes of a transaction whose frame fails its check or its length. Bytes that hold
no marker carry no command, and a frame that does not fail is another row's. -/
def execCommandCheckFailed (raw : List Byte) (s : State) : Host.Outcome State Fault Refusal :=
  match readFrame supervisoryLimit raw with
  | .failed t _ => .next (checkReply t s)
  | _ => .next s

/-- UNKNOWN_COMMAND_TYPE (R175): a type that names a command is another row's. -/
def execUnknownCommandType (type : Byte) (s : State) : Host.Outcome State Fault Refusal :=
  if (supervisoryCommand type).isSome then .next s else .next (s.command type fun u => refuse u .unknown)

/-- PARAMETER_READ (R179). -/
def execParameterRead (row member index : Nat) (s : State) : Host.Outcome State Fault Refusal :=
  .next (s.command SupervisoryCommand.parameterRead.type (readParam row member index))

/-- PARAMETER_WRITE (R179). -/
def execParameterWrite (moment : Moment) (row member index : Nat) (v : ParamValue) (s : State) :
    Host.Outcome State Fault Refusal :=
  .next (s.command SupervisoryCommand.parameterWrite.type (writeParam row member index moment v))

/-- FRAME_RATE_WRITE (spec/01 R11): PARAMETER WRITE of row 1. -/
def execFrameRateWrite (moment : Moment) (v : ParamValue) (s : State) : Host.Outcome State Fault Refusal :=
  .next (s.command SupervisoryCommand.parameterWrite.type (writeParam 1 1 0 moment v))

/-- CONFIGURED_ROUTE_WRITE (spec/03 R53): PARAMETER WRITE of row 13. -/
def execConfiguredRouteWrite (index : Nat) (v : ParamValue) (s : State) : Host.Outcome State Fault Refusal :=
  .next (s.command SupervisoryCommand.parameterWrite.type (writeParam 13 1 index 0 v))

/-- FLOW_CONTROL_WRITE (spec/02 R34): PARAMETER WRITE of row 8. -/
def execFlowControlWrite (index : Nat) (v : ParamValue) (s : State) : Host.Outcome State Fault Refusal :=
  .next (s.command SupervisoryCommand.parameterWrite.type (writeParam 8 1 index 0 v))

/-- SCHEDULING_MODE_WRITE (spec/07 R120): PARAMETER WRITE of row 20. -/
def execSchedulingModeWrite (v : ParamValue) (s : State) : Host.Outcome State Fault Refusal :=
  .next (s.command SupervisoryCommand.parameterWrite.type (writeParam 20 1 0 0 v))

/-- POOL_REGION_WRITE (spec/06 R101): PARAMETER WRITE of row 22 with index 12, the pool. -/
def execPoolRegionWrite (member : Nat) (v : ParamValue) (s : State) : Host.Outcome State Fault Refusal :=
  .next (s.command SupervisoryCommand.parameterWrite.type (writeParam 22 member 12 0 v))

/-- START (R181). -/
def execStart (s : State) : Host.Outcome State Fault Refusal :=
  .next (s.command SupervisoryCommand.start.type fun t => inMode t .config (startPart t))

/-- STOP (R182). -/
def execStop (s : State) : Host.Outcome State Fault Refusal :=
  .next (s.command SupervisoryCommand.stop.type fun t => inMode t .run (done t.leaveRun))

/-- FLUSH_PORT (spec/06 R107). -/
def execFlushPort (n : Nat) (s : State) : Host.Outcome State Fault Refusal :=
  .next (s.command SupervisoryCommand.flushPort.type fun t => inMode t .run (withIndex t n 8 (flushPortQueue t)))

/-- FLUSH_SERVICE (spec/06 R108). -/
def execFlushService (n : Nat) (s : State) : Host.Outcome State Fault Refusal :=
  .next (s.command SupervisoryCommand.flushService.type fun t => inMode t .run (withIndex t n 4 (flushServiceCues t)))

/-- COUNTER_SELECT (spec/11 R171). -/
def execCounterSelect (n : Nat) (f : SelectionFields) (s : State) : Host.Outcome State Fault Refusal :=
  .next (s.command SupervisoryCommand.counterSelect.type fun t => selectCounter t n f)

/-- COUNTER_CLEAR (spec/11 R171). -/
def execCounterClear (n : Nat) (s : State) : Host.Outcome State Fault Refusal :=
  .next (s.command SupervisoryCommand.counterClear.type fun t => clearCounter t n)

/-- COUNTER_READ (spec/11 R171). -/
def execCounterRead (named : Per8 Bool) (s : State) : Host.Outcome State Fault Refusal :=
  .next (s.command SupervisoryCommand.counterRead.type fun t => readCounters t named)

/-- ALERT_STATUS (spec/11 R172). -/
def execAlertStatus (s : State) : Host.Outcome State Fault Refusal :=
  .next (s.command SupervisoryCommand.alertStatus.type fun t => report t (.alerts t.alerts))

/-- ALERT_CLEAR (spec/11 R173). -/
def execAlertClear (marks : Per8 Bool) (s : State) : Host.Outcome State Fault Refusal :=
  .next (s.command SupervisoryCommand.alertClear.type fun t => done { t with alerts := clearMarked t.alerts marks })

/-- ALERT_ENABLE (spec/11 R173, R174). -/
def execAlertEnable (marks : Per8 Bool) (s : State) : Host.Outcome State Fault Refusal :=
  .next (s.command SupervisoryCommand.alertEnable.type fun t => done { t with alerts := enableMarked t.alerts marks })

/-- REFERENCE_STATUS (spec/01 R11). -/
def execReferenceStatus (s : State) : Host.Outcome State Fault Refusal :=
  .next (s.command SupervisoryCommand.referenceStatus.type fun t => report t (.reference t.referenceStatus))

/-- PORT_STATUS (R177). -/
def execPortStatus (n : Nat) (s : State) : Host.Outcome State Fault Refusal :=
  .next (s.command SupervisoryCommand.portStatus.type fun t => withIndex t n 8 fun p => report t (.port (t.portStatus p)))

/-- GROUP_STATUS (spec/03 R37). -/
def execGroupStatus (n : Nat) (s : State) : Host.Outcome State Fault Refusal :=
  .next (s.command SupervisoryCommand.groupStatus.type fun t => withIndex t n 4 fun g => report t (.group (t.groupStatus g)))

/-- SERVICE_STATUS (R177). -/
def execServiceStatus (n : Nat) (s : State) : Host.Outcome State Fault Refusal :=
  .next (s.command SupervisoryCommand.serviceStatus.type fun t => withIndex t n 4 fun k => report t (.service (t.serviceStatus k)))

/-- LAYOUT_STATUS (spec/06 R98). -/
def execLayoutStatus (s : State) : Host.Outcome State Fault Refusal :=
  .next (s.command SupervisoryCommand.layoutStatus.type fun t => report t (.layout t.layoutStatus))

/-- AUTOMATION_STATUS (spec/09 R141). -/
def execAutomationStatus (s : State) : Host.Outcome State Fault Refusal :=
  .next (s.command SupervisoryCommand.automationStatus.type fun t => report t (.automation t.automationStatus))

/-- PACKAGE_STATUS (spec/10 R154). -/
def execPackageStatus (s : State) : Host.Outcome State Fault Refusal :=
  .next (s.command SupervisoryCommand.packageStatus.type fun t => report t t.packageStatus)

end Sys2Proof.Machine
end

