-- ==== Sys2Proof/Machine/Dispatch.lean ====
section
/-! DEFINITION. The dispatch: each command's arm is one call of its meaning. -/

namespace Sys2Proof.Machine

/-- The effect of a command on everything but the queue of waiting commands. -/
def exec (i : Instr) (s : State) : Host.Outcome State Fault Refusal :=
  match i with
  | .powerOnReset => Sys2Proof.Machine.execPowerOnReset s
  | .referencePulse moment order => Sys2Proof.Machine.execReferencePulse moment order s
  | .missingPulse => Sys2Proof.Machine.execMissingPulse s
  | .lossOfReference order => Sys2Proof.Machine.execLossOfReference order s
  | .flywheelBoundary order => Sys2Proof.Machine.execFlywheelBoundary order s
  | .frameLabel checkOk label => Sys2Proof.Machine.execFrameLabel checkOk label s
  | .contributorFrameFailure p raw => Sys2Proof.Machine.execContributorFrameFailure p raw s
  | .word p payload => Sys2Proof.Machine.execWord p payload s
  | .retract p count => Sys2Proof.Machine.execRetract p count s
  | .stamp p payload => Sys2Proof.Machine.execStamp p payload s
  | .take p => Sys2Proof.Machine.execTake p s
  | .release p => Sys2Proof.Machine.execRelease p s
  | .pkgOpen p id count => Sys2Proof.Machine.execPkgOpen p id count s
  | .pkgCue p cue => Sys2Proof.Machine.execPkgCue p cue s
  | .pkgClose p id => Sys2Proof.Machine.execPkgClose p id s
  | .pkgDrop p id => Sys2Proof.Machine.execPkgDrop p id s
  | .refreshDeadlineExpiry p => Sys2Proof.Machine.execRefreshDeadlineExpiry p s
  | .silenceDeadlineExpiry p => Sys2Proof.Machine.execSilenceDeadlineExpiry p s
  | .wordRecordTake p => Sys2Proof.Machine.execWordRecordTake p s
  | .retractRecordTake p => Sys2Proof.Machine.execRetractRecordTake p s
  | .pkgOpenTake p => Sys2Proof.Machine.execPkgOpenTake p s
  | .pkgCueTake p => Sys2Proof.Machine.execPkgCueTake p s
  | .pkgCloseTake p => Sys2Proof.Machine.execPkgCloseTake p s
  | .pkgDropTake p => Sys2Proof.Machine.execPkgDropTake p s
  | .yieldDeadlineExpiry g => Sys2Proof.Machine.execYieldDeadlineExpiry g s
  | .cutTimeAged g => Sys2Proof.Machine.execCutTimeAged g s
  | .idleDeadlineExpiry k => Sys2Proof.Machine.execIdleDeadlineExpiry k s
  | .clearDeadlineExpiry k => Sys2Proof.Machine.execClearDeadlineExpiry k s
  | .outputStalled => Sys2Proof.Machine.execOutputStalled s
  | .ready => Sys2Proof.Machine.execReady s
  | .busy => Sys2Proof.Machine.execBusy s
  | .outputFrameDropped => Sys2Proof.Machine.execOutputFrameDropped s
  | .event payload => Sys2Proof.Machine.execEvent payload s
  | .automationFrameDropped => Sys2Proof.Machine.execAutomationFrameDropped s
  | .effectTimeExpiry => Sys2Proof.Machine.execEffectTimeExpiry s
  | .switchTimeExpiry k => Sys2Proof.Machine.execSwitchTimeExpiry k s
  | .liveStartAged k => Sys2Proof.Machine.execLiveStartAged k s
  | .lastChangeAged k => Sys2Proof.Machine.execLastChangeAged k s
  | .transactionStart => Sys2Proof.Machine.execTransactionStart s
  | .commandCheckFailed raw => Sys2Proof.Machine.execCommandCheckFailed raw s
  | .unknownCommandType type => Sys2Proof.Machine.execUnknownCommandType type s
  | .parameterRead row member index => Sys2Proof.Machine.execParameterRead row member index s
  | .parameterWrite moment row member index value => Sys2Proof.Machine.execParameterWrite moment row member index value s
  | .frameRateWrite moment value => Sys2Proof.Machine.execFrameRateWrite moment value s
  | .configuredRouteWrite index value => Sys2Proof.Machine.execConfiguredRouteWrite index value s
  | .flowControlWrite index value => Sys2Proof.Machine.execFlowControlWrite index value s
  | .schedulingModeWrite value => Sys2Proof.Machine.execSchedulingModeWrite value s
  | .poolRegionWrite member value => Sys2Proof.Machine.execPoolRegionWrite member value s
  | .start => Sys2Proof.Machine.execStart s
  | .stop => Sys2Proof.Machine.execStop s
  | .flushPort port => Sys2Proof.Machine.execFlushPort port s
  | .flushService service => Sys2Proof.Machine.execFlushService service s
  | .counterSelect counter selection => Sys2Proof.Machine.execCounterSelect counter selection s
  | .counterClear counter => Sys2Proof.Machine.execCounterClear counter s
  | .counterRead clears => Sys2Proof.Machine.execCounterRead clears s
  | .alertStatus => Sys2Proof.Machine.execAlertStatus s
  | .alertClear marks => Sys2Proof.Machine.execAlertClear marks s
  | .alertEnable marks => Sys2Proof.Machine.execAlertEnable marks s
  | .referenceStatus => Sys2Proof.Machine.execReferenceStatus s
  | .portStatus port => Sys2Proof.Machine.execPortStatus port s
  | .groupStatus group => Sys2Proof.Machine.execGroupStatus group s
  | .serviceStatus service => Sys2Proof.Machine.execServiceStatus service s
  | .layoutStatus => Sys2Proof.Machine.execLayoutStatus s
  | .automationStatus => Sys2Proof.Machine.execAutomationStatus s
  | .packageStatus => Sys2Proof.Machine.execPackageStatus s
  | .responseReady => Sys2Proof.Machine.execResponseReady s

end Sys2Proof.Machine
end

