-- ==== Sys2Proof/Safety.lean ====
section
/-! DEFINITION. What the statements about the part speak of: which fields of the state a step may change, and the laws of
the device, each as a predicate on every state. -/

namespace Sys2Proof.Machine

/-! ### Frames -/

/-- The fields of the state. -/
inductive Field where
  | pending
  | mode
  | ref
  | ports
  | groups
  | services
  | silenceTimeout
  | schedMode
  | budget
  | poolRegion
  | layout
  | roundRobin
  | inserter
  | busyCount
  | events
  | packages
  | counters
  | alerts
  | sup
  | sent
  | freeIndex
  deriving DecidableEq, Repr

/-- Two states hold the same value in a field. -/
def State.agree (s t : State) : Field → Prop
  | .pending => t.pending = s.pending
  | .mode => t.mode = s.mode
  | .ref => t.ref = s.ref
  | .ports => t.ports = s.ports
  | .groups => t.groups = s.groups
  | .services => t.services = s.services
  | .silenceTimeout => t.silenceTimeout = s.silenceTimeout
  | .schedMode => t.schedMode = s.schedMode
  | .budget => t.budget = s.budget
  | .poolRegion => t.poolRegion = s.poolRegion
  | .layout => t.layout = s.layout
  | .roundRobin => t.roundRobin = s.roundRobin
  | .inserter => t.inserter = s.inserter
  | .busyCount => t.busyCount = s.busyCount
  | .events => t.events = s.events
  | .packages => t.packages = s.packages
  | .counters => t.counters = s.counters
  | .alerts => t.alerts = s.alerts
  | .sup => t.sup = s.sup
  | .sent => t.sent = s.sent
  | .freeIndex => t.freeIndex = s.freeIndex

/-- Every field outside the list holds the same value in both states. -/
def SameBut (changed : List Field) (s t : State) : Prop := ∀ f, f ∉ changed → s.agree t f

/-! ### The laws of the device -/

/-- Every counter value lies between 0 and 4 294 967 295, and a counter whose saturated flag is set holds
4 294 967 295 (spec/11 R166). -/
def CounterLaw (s : State) : Prop :=
  ∀ i, (s.counters.get i).value ≤ counterMax ∧
    ((s.counters.get i).saturated = true → (s.counters.get i).value = counterMax)

/-- The collections stay within the sizes the spec gives them: 32 pending entries and 4 switch entries (spec/09 R146), 16
samples (spec/02 R24), 8 history entries (spec/04 R66), 16 intervals and a good count of at most 64 that reaches 64 only
with LOCKED (spec/01 R4, R6), and a deficit of at most 512 (spec/07 R119). -/
structure SizeLaw (s : State) : Prop where
  events : s.events.length ≤ 32
  switches : ∀ k, (s.service k).switches.length ≤ 4
  window : ∀ p, (s.port p).window.length ≤ 16
  history : ∀ p, (s.port p).history.length ≤ 8
  intervals : s.ref.history.length ≤ 16
  goodCount : s.ref.goodCount ≤ 64
  counting : s.ref.state = .qualifying → s.ref.goodCount < 64
  deficit : ∀ k, (s.service k).deficit ≤ 512

/-- A port is a member of a group: a WRITER port whose port group names it (spec/03 R37). -/
def State.isMember (s : State) (p : Port) (g : Group) : Prop :=
  (s.port p).par.kind = .writer ∧ (s.port p).par.group = some g

/-- The relay states of a WRITER port that need a qualified port (spec/02 R25). -/
def LinkState.qualified : LinkState → Bool
  | .ready => true
  | .taking => true
  | .onAir => true
  | .yielding => true
  | _ => false

/-- The relay law (spec/03 R38, spec/02 R16, R25): a port is ON_AIR, TAKING or YIELDING exactly while it is the on-air,
taking or yielding port of its group; a handover has a taking port, a yielding port and a yield deadline together and no
on-air port; a port that is READY, TAKING, ON_AIR or YIELDING has at least 4 samples; and in CONFIG every port is OFFLINE
and every group is idle. -/
structure RelayLaw (s : State) : Prop where
  onAir : ∀ p g, (s.group g).onAir = some p ↔ (s.isMember p g ∧ (s.port p).link = .onAir)
  taking : ∀ p g, (s.group g).taking = some p ↔ (s.isMember p g ∧ (s.port p).link = .taking)
  yielding : ∀ p g, (s.group g).yielding = some p ↔ (s.isMember p g ∧ (s.port p).link = .yielding)
  grouped : ∀ p, (s.port p).link = .onAir ∨ (s.port p).link = .taking ∨ (s.port p).link = .yielding →
    ∃ g, s.isMember p g
  together : ∀ g, (s.group g).taking.isSome = (s.group g).yielding.isSome ∧
    (s.group g).yielding.isSome = (s.group g).yieldDeadline.isSome
  exclusive : ∀ g, (s.group g).taking.isSome = true → (s.group g).onAir = none
  samples : ∀ p, (s.port p).link.qualified = true → 4 ≤ (s.port p).window.length
  config : s.mode = .config → ∀ p, (s.port p).link = .offline

/-- A service in CONFIG: all but its parameters, its live route and its cue id counter stands as STOP leaves it. -/
def ServiceState.idle (v : ServiceState) : Prop :=
  v = { ServiceState.reset with par := v.par, liveRoute := v.liveRoute, cueCounter := v.cueCounter }

/-- A port in CONFIG: all but its parameters and its watermarks stands as STOP leaves it (spec/02 R36). -/
def PortState.idle (x : PortState) : Prop := x = { PortState.reset with par := x.par, marks := x.marks }

/-- A group in CONFIG: all but its two parameters stands as STOP leaves it (spec/03 R56). -/
def GroupState.idle (g : GroupState) : Prop :=
  g = { GroupState.reset with yieldTimeout := g.yieldTimeout, failover := g.failover }

/-- In CONFIG the part stands as STOP or power-on reset left it (spec/12 R181, R182): every port, group and service idle,
nothing pending, no package LOADING, the round-robin position at S3 and the busy count 0. -/
structure ConfigIdle (s : State) : Prop where
  ports : s.mode = .config → ∀ p, (s.port p).idle
  groups : s.mode = .config → ∀ g, (s.group g).idle
  services : s.mode = .config → ∀ k, (s.service k).idle
  events : s.mode = .config → s.events = []
  packages : s.mode = .config → ∀ r ∈ s.packageRecords, r.state = .ready
  roundRobin : s.mode = .config → s.roundRobin = 3
  busyCount : s.mode = .config → s.busyCount = 0

/-- A band lies within rows 1 to 15 with a height of 1 or 2 (spec/08 R129). -/
def Band.onScreen (b : Band) : Prop := 1 ≤ b.top ∧ b.top + b.height - 1 ≤ 15 ∧ (b.height = 1 ∨ b.height = 2)

/-- A message's band, if it is a SHOW, lies on the screen with a height equal to the rows it carries (spec/07 R110,
R128). -/
def OutputMsg.bandFits : OutputMsg → Prop
  | .showCue _ _ _ b _ _ _ row2 => b.onScreen ∧ b.height = (if row2.isSome then 2 else 1)
  | .clear _ => True
  | .move _ b => b.onScreen

/-- The band law (spec/07 R110, spec/08 R129, R130): the base row and the top row lie in their ranges; every committed,
shown, pending and sent band lies within rows 1 to 15 with a height of 1 or 2; a committed band and the band of a SHOW have
the height of their cue, and a pending MOVE that of the band on screen. -/
structure BandLaw (s : State) : Prop where
  baseRow : ∀ k, 2 ≤ (s.service k).par.baseRow ∧ (s.service k).par.baseRow ≤ 15
  topRow : ∀ k, 1 ≤ (s.service k).par.topRow ∧ (s.service k).par.topRow ≤ 14
  committed : ∀ k c, (s.service k).committed = some c → c.band.onScreen ∧ c.band.height = c.source.height
  shown : ∀ k r, (s.service k).display = .showing r → r.band.onScreen
  moving : ∀ k b, (s.service k).control = .move b → b.onScreen
  moved : ∀ k b r, (s.service k).control = .move b → (s.service k).display = .showing r → b.height = r.band.height
  sent : ∀ m ∈ s.sent.output, m.bandFits

/-- The package law (spec/10 R154): the table has 32 slots, its identifiers are distinct, and the prepared cues of all
packages together never exceed the pool region's capacity, which in RUN is the capacity in force. -/
structure PackageLaw (s : State) : Prop where
  slots : s.packages.length = 32
  distinct : (s.packageRecords.map PackageRecord.id).Nodup
  pool : poolUse s.packages ≤ s.poolRegion.capacity
  inForce : s.mode = .run → s.poolCapacity = s.poolRegion.capacity

/-- The store law (spec/06 R97): in RUN no intake queue and no cue queue holds more records than its region's capacity. A
service that can close a cue has a region: it has a live route, an open cue, a queued cue or a pending ROUTE only if its
capacity is above 0. In CONFIG the queues are empty. -/
structure StoreLaw (s : State) : Prop where
  intake : s.mode = .run → ∀ p, (s.port p).queue.length ≤ s.intakeCapacity p
  cues : s.mode = .run → ∀ k, (s.service k).queue.length ≤ s.queueCapacity k
  enabled : s.mode = .run → ∀ k, (s.service k).par.enabled = true → 0 < s.queueCapacity k
  routed : s.mode = .run → ∀ k, (s.service k).liveRoute.isSome = true → 0 < s.queueCapacity k
  opened : s.mode = .run → ∀ k, (s.service k).openCue.isSome = true → 0 < s.queueCapacity k
  routes : s.mode = .run → ∀ e ∈ s.events, 0 < s.queueCapacity e.service
  configPorts : s.mode = .config → ∀ p, (s.port p).queue = []
  configServices : s.mode = .config → ∀ k, (s.service k).queue = [] ∧ (s.service k).openCue = none
  configEvents : s.mode = .config → s.events = []

/-! ### The text of a cue (spec/04 R60) -/

/-- The rows of a cue keep the row law: each no longer than the formed width, at most the formed rows, and row 2 only
behind a row 1 (spec/04 R60). -/
structure CueBody.rowsFit (b : CueBody) : Prop where
  row1 : rowLength b.row1 ≤ b.width
  row2 : rowLength b.row2 ≤ b.width
  formed : b.row2 ≠ [] → b.row1 ≠ [] ∧ b.formedRows = 2

/-- A cue stands as the fit rule forms it: its words, placed one after another from an empty row 1, come to rest in its
two rows (spec/04 R60, R69). -/
def CueBody.formed (b : CueBody) : Prop := b.reflow b.words = b

/-- The law of the text of cues (spec/04 R60): every open and every queued cue holds a word, keeps the row law and stands as
the fit rule forms it. -/
structure TextLaw (s : State) : Prop where
  opened : ∀ k o, (s.service k).openCue = some o → o.body.words ≠ [] ∧ o.body.rowsFit ∧ o.body.formed
  queued : ∀ k c, c ∈ (s.service k).queue → c.body.words ≠ [] ∧ c.body.rowsFit ∧ c.body.formed

/-- The presentation times of a cue queue strictly increase from head to tail, each pair read with the modular comparison
(spec/06 R102). -/
def ServiceState.rising (v : ServiceState) : Prop := v.queue.Pairwise fun a b => 0 < (b.present - a.present).toInt

/-- While a service is SHOWING a cue, every queued cue's presentation time is later than the shown SMC of that cue (spec/06
R102). -/
def ServiceState.behindShown (v : ServiceState) : Prop :=
  ∀ r, v.display = .showing r → ∀ c ∈ v.queue, 0 < (c.present - r.shown).toInt

/-! ### The output of a boundary (spec/07 R117) -/

/-- The cost of a message in character units (spec/07 R117). -/
def OutputMsg.cost : OutputMsg → Nat
  | .showCue _ _ _ _ _ _ row1 row2 => 8 + row1.length + (row2.getD []).length
  | .clear _ => 4
  | .move _ _ => 4

/-! ### Noninterference (spec/11, introduction) -/

/-- The state with other counters and other alerts. -/
def State.withWatchers (s : State) (c : Per8 Counter) (a : Per8 AlertState) : State :=
  { s with counters := c, alerts := a }

end Sys2Proof.Machine
end

