-- ==== Sys2Proof/Certificates/Slice0/Obligations.lean ====
section
/-! DEFINITION. The statements for the provers. Each docstring names the rules of spec/ that the statement rests on. -/

open Sys2Proof Sys2Proof.Machine

/-! ### The step, reset and the laws of the device -/

/-- A step takes the command at the front of the queue and runs it with the rest of the queue; with nothing waiting the
part idles (the model's choices, log 20 and 33: the spec has no queue of commands). -/
def Obligations.StepRunsFrontCommand : Prop :=
  (∀ s c rest, s.pending = c :: rest → step s = exec c { s with pending := rest }) ∧
  (∀ s, s.pending = [] → step s = .next s)

/-- Every command answers a next state and leaves the queue of waiting commands as it was: no error that the spec names
stops the part (spec/00, What this document covers; log 20). -/
def Obligations.EveryCommandCompletes : Prop :=
  ∀ c s, ∃ t, exec c s = .next t ∧ t.pending = s.pending

/-- POWER_ON_RESET puts every block into its power-on state, with the values of the reset tables (R15, R16, R36, R37,
R56, R76, R95, R109, R127, R138, R153, R165, R166, R172, R178, R183). The queue of commands, the record of what was sent
and the index of free values are the model's own and stand (log 28).
That no boundary has been made, and what these fields hold in the reset state itself, are the model's choices (log 26), and
so is the tick in which the first period of the flywheel is counted (log 1). -/
def Obligations.PowerOnResetValues : Prop :=
  (∀ s, exec .powerOnReset s =
    .next { State.reset with pending := s.pending, sent := s.sent, freeIndex := s.freeIndex }) ∧
  State.reset.mode = .config ∧
  State.reset.ref =
    { state := .free, origin := none, smc := 0, phase := 0, rate := .fps25, trim := 0, pulseRecord := none,
      goodCount := 0, history := [], holdoverPeriod := none, flywheel := some (40 * 3000), lastBoundary := none,
      anchor := none } ∧
  (∀ p, State.reset.port p =
    { par := { kind := .unused, group := none, lag := 1000, holdTime := 1000, flowControl := true, hw := 0, lw := 0,
               region := ⟨0, 0⟩ },
      link := .offline, lastHeard := none, silence := none, window := [], queue := [], flow := .flowing,
      refresh := none, marks := none, history := [], load := .idle }) ∧
  (∀ g, State.reset.group g =
    { yieldTimeout := 4000, failover := false, onAir := none, taking := none, yielding := none, cut := none,
      grant := none, yieldDeadline := none }) ∧
  (∀ k, State.reset.service k =
    { par := { enabled := false, route := none, rowWidth := 37, rowsPerCue := 2, idleClose := 1500, delay := 0,
               lead := 200, closeMargin := 200, minReading := 1200, catchupFloor := 600, readingRate := 15, gap := 80,
               lateLimit := 3000, maxHold := 6000, weight := 1, baseRow := 14, topRow := 2, region := ⟨0, 0⟩ },
      liveRoute := none, cueCounter := 0, openCue := none, queue := [], phase := .normal, lastLateness := none,
      display := .blank, control := .none, committed := none, deficit := 0, shownLateness := none,
      rowMap := ⟨none, none, none, none⟩, segCurrent := .live, segPrevious := .live, lastChange := none,
      switches := [], kindInForce := .live, liveStart := none, lastSwitch := none, pointer := none }) ∧
  State.reset.silenceTimeout = 2000 ∧ State.reset.schedMode = .strict ∧ State.reset.budget = 160 ∧
  State.reset.poolRegion = ⟨0, 0⟩ ∧ State.reset.layout = none ∧ State.reset.roundRobin = 3 ∧
  State.reset.inserter = .ready ∧ State.reset.busyCount = 0 ∧ State.reset.events = [] ∧
  State.reset.packages = List.replicate 32 none ∧
  (∀ i, State.reset.counters.get i =
    { event := none, causes := ⟨true, true, true, true, true, true, true⟩, services := ⟨true, true, true, true⟩,
      ports := ⟨true, true, true, true, true, true, true, true⟩, threshold := 0, value := 0, saturated := false }) ∧
  (∀ i, State.reset.alerts.get i =
    { flag := false, enable := false, sources := ⟨false, false, false, false, false, false, false, false⟩ }) ∧
  State.reset.sup =
    { buffer := none, ready := false, overrun := false, executing := none, transaction := .none }

/-- After power-on reset every law of the device holds. -/
def Obligations.LawsHoldAtReset : Prop :=
  CounterLaw State.reset ∧ SizeLaw State.reset ∧ RelayLaw State.reset ∧ ConfigIdle State.reset ∧
  BandLaw State.reset ∧ PackageLaw State.reset ∧ StoreLaw State.reset ∧ TextLaw State.reset ∧
  ∀ k, (State.reset.service k).rising ∧ (State.reset.service k).behindShown

/-- Every step keeps the law of the counters (R166). -/
def Obligations.StepKeepsCounterLaw : Prop := ∀ s t, CounterLaw s → step s = .next t → CounterLaw t

/-- Every step keeps the sizes of the lists (R4, R24, R66, R119, R146). -/
def Obligations.StepKeepsSizeLaw : Prop := ∀ s t, SizeLaw s → step s = .next t → SizeLaw t

/-- Every step keeps the law of the relay groups (R38), with at least four samples for every qualified port (R25). -/
def Obligations.StepKeepsRelayLaw : Prop := ∀ s t, RelayLaw s → step s = .next t → RelayLaw t

/-- Every step keeps CONFIG idle: what STOP leaves stands until START (R36, R56, R76, R95, R109, R127, R138, R153, R165,
R181, R182). START alone leaves CONFIG, STOP and power-on reset alone enter it, and no other command moves the mode (R180). -/
def Obligations.StepKeepsConfigIdle : Prop :=
  (∀ s t, ConfigIdle s → step s = .next t → ConfigIdle t) ∧
  (∀ c s t, exec c s = .next t →
    t.mode = s.mode ∨ (c = .start ∧ s.mode = .config ∧ t.mode = .run) ∨
      (c = .stop ∧ s.mode = .run ∧ t.mode = .config) ∨ (c = .powerOnReset ∧ t.mode = .config))

/-- Every step keeps the law of the bands (R110, R129, R130): every band committed, shown, pending or sent lies within rows
1 to 15 with a height of 1 or 2; a committed band and the band of a SHOW have their cue's height, and a pending MOVE that of
the band on screen. -/
def Obligations.StepKeepsBandLaw : Prop := ∀ s t, BandLaw s → step s = .next t → BandLaw t

/-- Every step keeps the law of the package table (R154). -/
def Obligations.StepKeepsPackageLaw : Prop := ∀ s t, PackageLaw s → step s = .next t → PackageLaw t

/-- Every step keeps the law of the entry store for intake queues and cue queues (R97). -/
def Obligations.StepKeepsStoreLaw : Prop := ∀ s t, StoreLaw s → step s = .next t → StoreLaw t

/-- The SMC changes at frame boundaries and at no other moment, but for power-on reset: a command either leaves it, or
makes one frame boundary, which adds the cadence step of the current phase and advances the phase (R1). -/
def Obligations.SmcMovesOnlyAtBoundaries : Prop :=
  ∀ c s t, exec c s = .next t →
    t.ref.smc = s.ref.smc ∨
    (((∃ m order, c = .referencePulse m order) ∨ (∃ order, c = .lossOfReference order) ∨
        (∃ order, c = .flywheelBoundary order)) ∧
      t.ref.smc = s.ref.smc + BitVec.ofNat 32 (s.ref.rate.step s.ref.phase) ∧
      t.ref.phase = s.ref.rate.nextPhase s.ref.phase) ∨
    (c = .powerOnReset ∧ t.ref.smc = 0)

/-- In CONFIG nothing is sent on the output link or the automation link, and, from the state that STOP or power-on reset
leaves, nothing on a contributor link (R17, R35, R112, R139, R180). -/
def Obligations.ConfigSendsNothing : Prop :=
  ∀ c s t, s.mode = .config → exec c s = .next t →
    t.sent.output = s.sent.output ∧ t.sent.automation = s.sent.automation ∧
    (ConfigIdle s → t.sent.ports = s.sent.ports)

/-- Counters and alerts watch the part and do not steer it (spec/11, introduction): two states that differ in them alone
take every command to states that differ in them alone, but for what the supervisory unit reports of them. -/
def Obligations.WatchersDoNotSteer : Prop :=
  ∀ c s a b t, exec c s = .next t →
    ∃ u, exec c (s.withWatchers a b) = .next u ∧
      u = { t with counters := u.counters, alerts := u.alerts, sup := u.sup } ∧
      ((∀ n, c ≠ .counterRead n) → c ≠ .alertStatus → u.sup = t.sup)

/-! ### The reference unit -/

/-- A pulse in FREE or HOLDOVER (R4, R5, R10): a good one, whose interval lies within 1 % of the nominal period, starts
qualification; a bad one only becomes the pulse record. Neither makes a frame boundary. Moments are operands, counted in the
model's tick (log 1, log 3). -/
def Obligations.PulseOutsideLocked : Prop :=
  ∀ s m order, s.ref.state = .free ∨ s.ref.state = .holdover →
    (∀ r, s.ref.pulseRecord = some r → r ≤ m → 99 * s.ref.rate.nominal ≤ 100 * (m - r) →
        100 * (m - r) ≤ 101 * s.ref.rate.nominal →
      exec (.referencePulse m order) s = .next { s with
        ref := { s.ref with
          pulseRecord := some m
          state := .qualifying
          origin := some (if s.ref.state = .free then .free else .holdover)
          goodCount := 1
          history := [m - r] } }) ∧
    ((s.ref.pulseRecord = none ∨ ∃ r, s.ref.pulseRecord = some r ∧ r ≤ m ∧
        (100 * (m - r) < 99 * s.ref.rate.nominal ∨ 101 * s.ref.rate.nominal < 100 * (m - r))) →
      exec (.referencePulse m order) s = .next { s with ref := { s.ref with pulseRecord := some m } })

/-- A pulse in QUALIFYING (R6, R7), and a missing one (R6). The 64th good pulse in a row locks: it is swallowed less than
half a nominal period after the last boundary, and makes a frame boundary otherwise. That its interval joins the history
once is the model's reading (log 18), as is that a missing pulse leaves the state qualified from and the holdover period as
they stand (log 17); moments are operands, counted in the model's tick (log 1, log 3). -/
def Obligations.PulseWhileQualifying : Prop :=
  (∀ s m order, s.ref.state = .qualifying →
    (∀ r, s.ref.pulseRecord = some r → r ≤ m → 99 * s.ref.rate.nominal ≤ 100 * (m - r) →
        100 * (m - r) ≤ 101 * s.ref.rate.nominal →
      (s.ref.goodCount + 1 ≠ 64 →
        exec (.referencePulse m order) s = .next { s with
          ref := { s.ref with
            pulseRecord := some m
            goodCount := s.ref.goodCount + 1
            history := (s.ref.history ++ [m - r]).drop (s.ref.history.length + 1 - 16) } }) ∧
      (s.ref.goodCount = 63 → ∀ b, s.ref.lastBoundary = some b →
        let locked := ({ s with
          ref := { s.ref with
            pulseRecord := some m
            state := .locked
            flywheel := none
            goodCount := 64
            history := (s.ref.history ++ [m - r]).drop (s.ref.history.length + 1 - 16) } }).setAlert .refLocked none
        (2 * m < 2 * b + s.ref.rate.nominal → exec (.referencePulse m order) s = .next locked) ∧
        (2 * b + s.ref.rate.nominal ≤ 2 * m →
          exec (.referencePulse m order) s = .next (locked.frameBoundary m order)))) ∧
    ((s.ref.pulseRecord = none ∨ ∃ r, s.ref.pulseRecord = some r ∧ r ≤ m ∧
        (100 * (m - r) < 99 * s.ref.rate.nominal ∨ 101 * s.ref.rate.nominal < 100 * (m - r))) →
      exec (.referencePulse m order) s = .next { s with
        ref := { s.ref with pulseRecord := some m, goodCount := 0, history := [] } })) ∧
  (∀ s, s.ref.state = .qualifying →
    (s.ref.origin = some .holdover → exec .missingPulse s = .next { s with
      ref := { s.ref with state := .holdover, goodCount := 0, history := [] } }) ∧
    (s.ref.origin = some .free → exec .missingPulse s = .next { s with
      ref := { s.ref with state := .free, goodCount := 0, history := [] } }))

/-- A pulse in LOCKED (R8): one less than half a nominal period after the last boundary is swallowed; every other makes a
frame boundary, and a good one's interval joins the period history. Moments are operands, counted in the model's tick (log 1,
log 3). -/
def Obligations.PulseWhileLocked : Prop :=
  ∀ s m order b, s.ref.state = .locked → s.ref.lastBoundary = some b →
    (2 * m < 2 * b + s.ref.rate.nominal →
      exec (.referencePulse m order) s = .next { s with ref := { s.ref with pulseRecord := some m } }) ∧
    (2 * b + s.ref.rate.nominal ≤ 2 * m →
      (∀ r, s.ref.pulseRecord = some r → r ≤ m → 99 * s.ref.rate.nominal ≤ 100 * (m - r) →
          100 * (m - r) ≤ 101 * s.ref.rate.nominal →
        exec (.referencePulse m order) s = .next (State.frameBoundary { s with
          ref := { s.ref with
            pulseRecord := some m
            history := (s.ref.history ++ [m - r]).drop (s.ref.history.length + 1 - 16) } } m order)) ∧
      ((s.ref.pulseRecord = none ∨ ∃ r, s.ref.pulseRecord = some r ∧ r ≤ m ∧
          (100 * (m - r) < 99 * s.ref.rate.nominal ∨ 101 * s.ref.rate.nominal < 100 * (m - r))) →
        exec (.referencePulse m order) s = .next (State.frameBoundary { s with
          ref := { s.ref with pulseRecord := some m } } m order)))

/-- Loss of the reference (R9): HOLDOVER is entered with the mean of the 16 intervals as its period, REF_LOST is set,
REFERENCE_LOSS is raised, and one boundary is made at once, 1.5 nominal periods after the last pulse; the next lies at
T + 2H. Where the mean is no whole number of ticks it is one of the two beside it (the direction is free, log 2).
T is the moment of the last boundary made, which is one made in LOCKED but where none was made there (log 17). Moments are
counted in the model's tick and held by the state (log 1, log 3). -/
def Obligations.LossOfReference : Prop :=
  ∀ s order p b, s.ref.state = .locked → s.ref.pulseRecord = some p → s.ref.lastBoundary = some b →
    s.ref.history.length = 16 →
    ∃ h, 16 * h < s.ref.history.sum + 16 ∧ s.ref.history.sum < 16 * h + 16 ∧
      exec (.lossOfReference order) s = .next (((State.setAlert { s with
        ref := { s.ref with
          state := .holdover
          goodCount := 0
          holdoverPeriod := some h
          flywheel := some (b + 2 * h) } } .refLost none).raise ⟨.referenceLoss, none, none, none, 0⟩).frameBoundary
        (p + s.ref.rate.nominal + s.ref.rate.nominal / 2) order)

/-- A frame boundary (R1, R10, R13): the SMC advances by the cadence step, the phase by one, and a valid anchor by one
frame; no other field of the reference unit moves, and the flags set before it stay set. What it may change besides is
the work of timers, takes and the output scheduler. In this order: the expiries left outstanding are taken; the SMC advances,
every pending event and switch entry has seen a boundary (R3), and HOLDOVER_FRAMES is raised in holdover (R10); then the
things of the boundary are taken: in RUN the five steps of the scheduler's work in their order over the enabled services
(R112), with the tasks of the command before, between and behind its pieces, so that a drop or a switch can cut a cue that
was committed at the boundary (R126, R164); and the levels are sampled once among them (R169). Each task is the command of
its row.
That the command carries the order, and that what it leaves outstanding is taken before the next boundary, are the model's
choices (log 5), and so is the mark that an entry has seen a boundary (log 6); the moment is in the model's tick (log 1).
That a clear deadline is examined at step 1 alone, by the operation of CLEAR_DEADLINE_EXPIRY, is the model's reading (log 7). -/
def Obligations.FrameBoundaryAdvances : Prop :=
  (∀ (s : State) m order,
    (s.frameBoundary m order).ref =
      { s.ref with
        smc := s.ref.smc + BitVec.ofNat 32 (s.ref.rate.step s.ref.phase)
        phase := s.ref.rate.nextPhase s.ref.phase
        lastBoundary := some m
        anchor := s.ref.anchor.map fun a =>
          ⟨(a.frame + 1) % (86400 * s.ref.rate.fps), s.ref.smc + BitVec.ofNat 32 (s.ref.rate.step s.ref.phase),
            s.ref.rate.nextPhase s.ref.phase⟩ } ∧
    SameBut [.ref, .ports, .groups, .services, .roundRobin, .busyCount, .events, .packages, .counters, .alerts, .sent] s
      (s.frameBoundary m order) ∧
    (∀ i, (s.alerts.get i).flag = true → ((s.frameBoundary m order).alerts.get i).flag = true) ∧
    (∀ i, ((s.frameBoundary m order).alerts.get i).enable = (s.alerts.get i).enable)) ∧
  (∀ (s : State) m order,
    let enabled := allServices.filter fun k => (s.service k).par.enabled
    let work : List BoundaryStep :=
      if s.mode = .run then .deadlines :: enabled.map .commit ++ [.controls, .captions, .account] else []
    let things := interleave order.between work ++ order.late.map .task
    let first := (things.take order.sample).foldl Sending.runStep ⟨s.finishBoundary.advanceBoundary m, s.budget⟩
    s.frameBoundary m order =
      ((things.drop order.sample).foldl Sending.runStep ⟨first.state.sampleLevels, first.budget⟩).state) ∧
  ((∀ work, interleave [] work = work) ∧
    ∀ (g : List BoundaryTask) (gs : List (List BoundaryTask)),
      interleave (g :: gs) [] = g.map .task ++ interleave gs [] ∧
      ∀ w ws, interleave (g :: gs) (w :: ws) = g.map .task ++ w :: interleave gs ws) ∧
  (∀ (s : State) (left : Nat),
    let enabled := allServices.filter fun k => (s.service k).par.enabled
    let outstanding : List BoundaryTask := allPorts.map .refresh ++ allPorts.map .silence ++ allGroups.map .yieldEnd ++
      allGroups.map .cutAged ++ allServices.map .idle ++ [.effects] ++ allServices.map .switches ++
      allServices.map .liveStartAged ++ allServices.map .lastChangeAged
    s.finishBoundary = outstanding.foldl State.runTask s ∧
    let taken : BoundaryStep → Sending := fun y => Sending.runStep ⟨s, left⟩ y
    (∀ x, taken (.task x) = ⟨s.runTask x, left⟩) ∧
    taken .deadlines = ⟨enabled.foldl State.expireClear s, left⟩ ∧
    (∀ k, exec (.clearDeadlineExpiry k) s = .next (s.expireClear k)) ∧
    (∀ k, taken (.commit k) = ⟨s.commitStep k, left⟩) ∧
    taken .controls = Sending.controls ⟨s, left⟩ ∧
    taken .captions = Sending.captions ⟨s, left⟩ ∧
    taken .account = ⟨s.account, left⟩) ∧
  (∀ (s : State) m,
    let advanced : State := { s with
      ref := { s.ref with
        smc := s.ref.smc + BitVec.ofNat 32 (s.ref.rate.step s.ref.phase)
        phase := s.ref.rate.nextPhase s.ref.phase
        lastBoundary := some m
        anchor := s.ref.anchor.map fun a =>
          ⟨(a.frame + 1) % (86400 * s.ref.rate.fps), s.ref.smc + BitVec.ofNat 32 (s.ref.rate.step s.ref.phase),
            s.ref.rate.nextPhase s.ref.phase⟩ }
      events := s.events.map fun e => { e with armed := true }
      services := s.services.map fun v => { v with switches := v.switches.map fun e => { e with armed := true } } }
    let holdover := s.ref.state = .holdover ∨ (s.ref.state = .qualifying ∧ s.ref.origin = some .holdover)
    (holdover → s.advanceBoundary m = advanced.raise ⟨.holdoverFrames, none, none, none, 0⟩) ∧
    (¬ holdover → s.advanceBoundary m = advanced)) ∧
  (∀ (s : State) (p : Port) (g : Group) (k : Service),
    exec (.refreshDeadlineExpiry p) s = .next (s.runTask (.refresh p)) ∧
    exec (.silenceDeadlineExpiry p) s = .next (s.runTask (.silence p)) ∧
    exec (.yieldDeadlineExpiry g) s = .next (s.runTask (.yieldEnd g)) ∧
    exec (.cutTimeAged g) s = .next (s.runTask (.cutAged g)) ∧
    exec (.idleDeadlineExpiry k) s = .next (s.runTask (.idle k)) ∧
    exec .effectTimeExpiry s = .next (s.runTask .effects) ∧
    exec (.switchTimeExpiry k) s = .next (s.runTask (.switches k)) ∧
    exec (.liveStartAged k) s = .next (s.runTask (.liveStartAged k)) ∧
    exec (.lastChangeAged k) s = .next (s.runTask (.lastChangeAged k)) ∧
    ((s.port p).queue = [] → s.runTask (.take p) = s) ∧
    (∀ w rest, (s.port p).queue = .word w :: rest → exec (.wordRecordTake p) s = .next (s.runTask (.take p))) ∧
    (∀ n a rest, (s.port p).queue = .retract n a :: rest →
      exec (.retractRecordTake p) s = .next (s.runTask (.take p))) ∧
    (∀ id n rest, (s.port p).queue = .pkgOpen id n :: rest → exec (.pkgOpenTake p) s = .next (s.runTask (.take p))) ∧
    (∀ c rest, (s.port p).queue = .pkgCue c :: rest → exec (.pkgCueTake p) s = .next (s.runTask (.take p))) ∧
    (∀ id rest, (s.port p).queue = .pkgClose id :: rest → exec (.pkgCloseTake p) s = .next (s.runTask (.take p))) ∧
    (∀ id rest, (s.port p).queue = .pkgDrop id :: rest → exec (.pkgDropTake p) s = .next (s.runTask (.take p))))

/-- The flywheel makes a boundary and begins its next period: the holdover period in HOLDOVER and in QUALIFYING entered
from it, the trimmed nominal period in FREE and in QUALIFYING entered from FREE (R5, R6, R10, R11). A flywheel that does
not run makes none (R7): commanded then, the boundary does nothing (log 4). The moments are the state's own, counted in the
model's tick (log 1, log 3). -/
def Obligations.FlywheelBoundary : Prop :=
  (∀ s m order, s.ref.flywheel = some m →
    (∀ h, (s.ref.state = .holdover ∨ (s.ref.state = .qualifying ∧ s.ref.origin = some .holdover)) →
        s.ref.holdoverPeriod = some h →
      exec (.flywheelBoundary order) s =
        .next (State.frameBoundary { s with ref := { s.ref with flywheel := some (m + h) } } m order)) ∧
    (∀ n : Nat, (s.ref.state = .free ∨ (s.ref.state = .qualifying ∧ s.ref.origin = some .free)) →
        -32 ≤ s.ref.trim → s.ref.trim ≤ 31 → (10000 * n : Int) = s.ref.rate.nominal * (10000 + s.ref.trim) →
      exec (.flywheelBoundary order) s =
        .next (State.frameBoundary { s with ref := { s.ref with flywheel := some (m + n) } } m order))) ∧
  (∀ s order, s.ref.flywheel = none → exec (.flywheelBoundary order) s = .next s)

/-- A frame label (R12, R13): used only in LOCKED, with its check good and its fields in range; a drop-frame label makes
the anchor invalid, a first label loads it, one that agrees leaves it, and one that differs reloads it with
LABEL_JUMP. -/
def Obligations.FrameLabelMovesAnchor : Prop :=
  ∀ s ok l,
    let inRange := l.hours < 24 ∧ l.minutes < 60 ∧ l.seconds < 60 ∧ l.frames < s.ref.rate.fps
    let n := ((l.hours * 60 + l.minutes) * 60 + l.seconds) * s.ref.rate.fps + l.frames
    ((s.ref.state ≠ .locked ∨ ok = false ∨ ¬ inRange) → exec (.frameLabel ok l) s = .next s) ∧
    (s.ref.state = .locked → ok = true → inRange →
      (l.dropFrame = true →
        exec (.frameLabel ok l) s = .next { s with ref := { s.ref with anchor := none } }) ∧
      (l.dropFrame = false → s.ref.anchor = none →
        exec (.frameLabel ok l) s =
          .next { s with ref := { s.ref with anchor := some ⟨n, s.ref.smc, s.ref.phase⟩ } }) ∧
      (∀ a, l.dropFrame = false → s.ref.anchor = some a → a.frame = n → exec (.frameLabel ok l) s = .next s) ∧
      (∀ a, l.dropFrame = false → s.ref.anchor = some a → a.frame ≠ n →
        exec (.frameLabel ok l) s =
          .next (State.raise { s with ref := { s.ref with anchor := some ⟨n, a.smc, a.phase⟩ } }
            ⟨.labelJump, none, none, none, 0⟩)))

/-- The snap of a time later than the current SMC is the first boundary of the predicted sequence that is not earlier
than it; the snap of any other time is the current SMC (R2, R87). -/
def Obligations.SnapIsFirstPredictedBoundary : Prop :=
  ∀ (u : RefUnit) (x : Smc),
    (later x u.smc = true →
      ∃ n, 1 ≤ n ∧ u.snap x = u.smc + BitVec.ofNat 32 (u.rate.sumSteps u.phase n) ∧
        earlier (u.smc + BitVec.ofNat 32 (u.rate.sumSteps u.phase n)) x = false ∧
        ∀ m, 1 ≤ m → m < n → earlier (u.smc + BitVec.ofNat 32 (u.rate.sumSteps u.phase m)) x = true) ∧
    (later x u.smc = false → u.snap x = u.smc)

/-- The conversion of a label (R14): RANGE for a field out of range; immediate without a valid anchor, for a drop-frame
label, and at or before the anchor; otherwise the anchor SMC plus the sum of the cadence steps that follow it, one for
each frame, and RANGE when that lies more than 300 000 ms ahead. -/
def Obligations.LabelConversion : Prop :=
  ∀ (u : RefUnit) (l : Label),
    let inRange := l.hours < 24 ∧ l.minutes < 60 ∧ l.seconds < 60 ∧ l.frames < u.rate.fps
    let n := ((l.hours * 60 + l.minutes) * 60 + l.seconds) * u.rate.fps + l.frames
    (¬ inRange → u.convert l = .range) ∧
    (inRange → u.anchor = none ∨ l.dropFrame = true → u.convert l = .immediate true) ∧
    (∀ a (d : Int), inRange → l.dropFrame = false → u.anchor = some a →
      (∃ z : Int, d = (n : Int) - a.frame + z * (86400 * u.rate.fps)) →
      -(43200 * u.rate.fps : Int) ≤ d → d < 43200 * u.rate.fps →
      (d ≤ 0 → u.convert l = .immediate false) ∧
      (0 < d →
        let e := a.smc + BitVec.ofNat 32 (u.rate.sumSteps a.phase d.toNat)
        ((e - u.smc).toInt ≤ 300000 → u.convert l = .converted e) ∧
        (300000 < (e - u.smc).toInt → u.convert l = .range)))

/-! ### Contributor links -/

/-- A valid frame in RUN refreshes its link (R18): the port is heard at the arrival SMC and its silence deadline is set
afresh; an OFFLINE link comes up, a WRITER port in STANDBY and a SCRIPT port in UP, with a STATE message. Everything else
stays. Entering a state is one change of the port with one STATE message, which names the state and the number of samples
(R35, R38). -/
def Obligations.LinkRefresh : Prop :=
  ∀ (s : State) (p : Port),
    let linked : LinkState := if (s.port p).par.kind = .writer then .standby else .up
    let heard := { s.port p with
      lastHeard := some s.ref.smc
      silence := some (s.ref.smc + BitVec.ofNat 32 s.silenceTimeout) }
    ((s.port p).link ≠ .offline → s.refreshLink p = s.setPort p heard) ∧
    ((s.port p).link = .offline →
      s.refreshLink p = (s.setPort p { heard with link := linked }).sendPort p
        (.state linked (if (s.port p).par.kind = .writer then (s.port p).window.length else 0))) ∧
    (∀ l, s.enterLink p l = (s.setPort p { s.port p with link := l }).sendPort p
      (.state l (if (s.port p).par.kind = .writer then (s.port p).window.length else 0)))

/-- The common frame (R184): marker, length, type, payload and the CRC-16 of the bytes between, most significant byte first;
a receiver skips what stands before the marker, takes the frame with its payload and leaves the rest of the line, and fails
a frame whose length exceeds the limit, that is cut off, or whose check value disagrees.
What a port makes of frames (R16, R17): an UNUSED port takes none. A failing frame raises LINK_ERRORS and changes nothing
else, in either mode; the search goes on behind its marker (R184). In CONFIG every valid frame is discarded. In RUN a frame
of a type the part does not know, and a message that the port's kind does not accept, refresh the link and raise
LINK_ERRORS. A stretch of line ends for the command of a failing frame at the first message that a row of its own takes
(log 35). Of the messages without a layout only an empty payload is known to be too short (log 31). A payload above 96 bytes
is a failing frame (log 29). -/
def Obligations.FramesByPortKind : Prop :=
  (∀ (limit : Nat) (t : Byte) (payload before rest : List Byte),
    let body := BitVec.ofNat 8 payload.length :: t :: payload
    let check := crc16 body
    buildFrame t payload = 0xA5#8 :: body ++ [BitVec.ofNat 8 (check.toNat / 256), BitVec.ofNat 8 check.toNat] ∧
    ((∀ b ∈ before, b ≠ 0xA5#8) →
      (readFrame limit before = .noMarker) ∧
      (payload.length ≤ limit → payload.length ≤ 255 →
        readFrame limit (before ++ buildFrame t payload ++ rest) = .frame t payload rest ∧
        ∀ hi lo : Byte, hi ++ lo ≠ check →
          readFrame limit (before ++ 0xA5#8 :: body ++ hi :: lo :: rest) = .failed (some t) (body ++ hi :: lo :: rest)) ∧
      (∀ n : Byte, limit < n.toNat ∨ rest.length < n.toNat + 2 →
        readFrame limit (before ++ 0xA5#8 :: n :: t :: rest) = .failed (some t) (n :: t :: rest)) ∧
      (∀ n : Byte, readFrame limit (before ++ [0xA5#8, n]) = .failed none [n]) ∧
      readFrame limit (before ++ [0xA5#8]) = .failed none [])) ∧
  (crc16 [] = 0xFFFF#16 ∧
    ∀ (bytes : List Byte) (b : Byte), crc16 (bytes ++ [b]) = [7, 6, 5, 4, 3, 2, 1, 0].foldl
      (fun (c : BitVec 16) i => if (c.msb ^^ b.getLsbD i) = true then (c <<< 1) ^^^ 0x1021#16 else c <<< 1)
      (crc16 bytes)) ∧
  ∀ (s : State) (p : Port) (raw payload : List Byte) (count : Nat) (id : PackageId) (cue : PkgCueFields),
    let kind := (s.port p).par.kind
    let erred := (s.refreshLink p).raise ⟨.linkErrors, some p, none, none, 0⟩
    let type : Byte → Nat := BitVec.toNat
    let taken : Byte → List Byte → Prop := fun t body =>
      (kind = .writer ∧ (type t = 1 ∧ 5 ≤ body.length ∨ type t = 2 ∧ body.length = 4 ∨ type t = 3 ∧ body ≠ [] ∨
        type t = 4 ∨ type t = 5)) ∨
      (kind = .script ∧ 0x10 ≤ type t ∧ type t ≤ 0x13 ∧ body ≠ [])
    (kind = .unused → ∀ c ∈ ([.contributorFrameFailure p raw, .word p payload, .retract p count, .stamp p payload,
        .take p, .release p, .pkgOpen p id count, .pkgCue p cue, .pkgClose p id, .pkgDrop p id] : List Instr),
      exec c s = .next s) ∧
    (kind ≠ .unused →
      (∀ t rest, readFrame 96 raw = .failed t rest →
        exec (.contributorFrameFailure p raw) s =
          exec (.contributorFrameFailure p rest) (s.raise ⟨.linkErrors, some p, none, none, 0⟩)) ∧
      (∀ t body rest, readFrame 96 raw = .frame t body rest →
        (taken t body → exec (.contributorFrameFailure p raw) s = .next s) ∧
        (¬ taken t body → s.mode = .run →
          exec (.contributorFrameFailure p raw) s = exec (.contributorFrameFailure p rest) erred) ∧
        (¬ taken t body → s.mode = .config →
          exec (.contributorFrameFailure p raw) s = exec (.contributorFrameFailure p rest) s)) ∧
      (readFrame 96 raw = .noMarker → exec (.contributorFrameFailure p raw) s = .next s)) ∧
    (kind ≠ .unused → 96 < payload.length →
      exec (.word p payload) s = .next (s.raise ⟨.linkErrors, some p, none, none, 0⟩) ∧
      exec (.stamp p payload) s = .next (s.raise ⟨.linkErrors, some p, none, none, 0⟩)) ∧
    (s.mode = .config → payload.length ≤ 96 → ∀ c ∈ ([.word p payload, .retract p count, .stamp p payload, .take p,
        .release p, .pkgOpen p id count, .pkgCue p cue, .pkgClose p id, .pkgDrop p id] : List Instr),
      exec c s = .next s) ∧
    (s.mode = .run → kind = .script → payload.length ≤ 96 →
      ∀ c ∈ ([.word p payload, .retract p count, .stamp p payload, .take p, .release p] : List Instr),
        exec c s = .next erred) ∧
    (s.mode = .run → kind = .writer →
      ∀ c ∈ ([.pkgOpen p id count, .pkgCue p cue, .pkgClose p id, .pkgDrop p id] : List Instr),
        exec c s = .next erred)

/-- A WORD on a WRITER port in RUN (R21): its control characters are removed; an empty rest is dropped as EMPTY; more than
31 characters are cut to 31 with WORD_TRUNCATED and the truncated flag; and the record is pushed with its arrival SMC. A
payload below 5 bytes raises LINK_ERRORS (R184). -/
def Obligations.WordIntake : Prop :=
  (∀ (s : State) (p : Port) (payload : List Byte), s.mode = .run → (s.port p).par.kind = .writer → payload.length < 5 →
    exec (.word p payload) s = .next ((s.refreshLink p).raise ⟨.linkErrors, some p, none, none, 0⟩)) ∧
  ∀ (s : State) (p : Port) (b3 b2 b1 b0 flags : Byte) (text : Text),
    s.mode = .run → (s.port p).par.kind = .writer → text.length ≤ 91 →
    let t := s.refreshLink p
    let kept := text.filter fun c => 32 ≤ c.toNat
    let record : Text → Bool → IntakeRecord := fun x cut =>
      .word ⟨be32 b3 b2 b1 b0, s.ref.smc, flags.getLsbD 0, flags.getLsbD 1, x, cut⟩
    (kept = [] →
      exec (.word p (b3 :: b2 :: b1 :: b0 :: flags :: text)) s =
        .next (t.raise ⟨.wordDropped, some p, none, some .empty, 0⟩)) ∧
    (kept ≠ [] → kept.length ≤ 31 →
      exec (.word p (b3 :: b2 :: b1 :: b0 :: flags :: text)) s = .next (t.push p (record kept false))) ∧
    (31 < kept.length →
      exec (.word p (b3 :: b2 :: b1 :: b0 :: flags :: text)) s =
        .next ((t.raise ⟨.wordTruncated, some p, none, none, 0⟩).push p (record (kept.take 31) true)))

/-- RETRACT and the package messages on the kind of port that accepts them, in RUN (R22, R23): what cannot be repaired
raises LINK_ERRORS; a count above 8 becomes 8; a PKG-CUE is repaired; and the record is pushed. -/
def Obligations.RecordIntake : Prop :=
  ∀ (s : State) (p : Port), s.mode = .run →
    let t := s.refreshLink p
    let erred := t.raise ⟨.linkErrors, some p, none, none, 0⟩
    ((s.port p).par.kind = .writer → ∀ n,
      (n = 0 → exec (.retract p n) s = .next erred) ∧
      (n ≠ 0 → exec (.retract p n) s = .next (t.push p (.retract (min 8 n) s.ref.smc)))) ∧
    ((s.port p).par.kind = .script →
      (∀ id n, (id = 0 ∨ n = 0 ∨ 255 < n → exec (.pkgOpen p id n) s = .next erred) ∧
        (id ≠ 0 → 1 ≤ n → n ≤ 255 → exec (.pkgOpen p id n) s = .next (t.push p (.pkgOpen id n)))) ∧
      (∀ id, (id = 0 → exec (.pkgClose p id) s = .next erred ∧ exec (.pkgDrop p id) s = .next erred) ∧
        (id ≠ 0 → exec (.pkgClose p id) s = .next (t.push p (.pkgClose id)) ∧
          exec (.pkgDrop p id) s = .next (t.push p (.pkgDrop id)))) ∧
      (∀ c : PkgCueFields,
        let r1 := (c.row1.filter fun x => 32 ≤ x.toNat).take 42
        let r2 := ((c.row2.getD []).filter fun x => 32 ≤ x.toNat).take 42
        let offset := min c.offset 600000
        let duration := if c.duration < 500 then 500 else if 10000 < c.duration then 10000 else c.duration
        (r1 = [] → r2 = [] → exec (.pkgCue p c) s = .next erred) ∧
        (r1 ≠ [] → r2 = [] →
          exec (.pkgCue p c) s = .next (t.push p (.pkgCue ⟨offset, duration, r1, none, c.speaker⟩))) ∧
        (r1 = [] → r2 ≠ [] →
          exec (.pkgCue p c) s = .next (t.push p (.pkgCue ⟨offset, duration, r2, none, c.speaker⟩))) ∧
        (r1 ≠ [] → r2 ≠ [] →
          exec (.pkgCue p c) s = .next (t.push p (.pkgCue ⟨offset, duration, r1, some r2, c.speaker⟩)))))

/-- A push (R27, R28, R31): with room the record joins the tail, and a FLOWING port with flow control whose occupancy has
come to HW sends HOLD, is HELD, sets its refresh deadline half a hold time ahead and raises HOLD_SENT. A full queue drops
the record, sets INTAKE_OVERFLOW with the port, and raises WORD_DROPPED with cause OVERFLOW for a WORD. -/
def Obligations.PushRecord : Prop :=
  ∀ (s : State) (p : Port) (r : IntakeRecord),
    let x := s.port p
    let joined := { x with queue := x.queue ++ [r] }
    let holds := x.par.flowControl = true ∧ x.flow = .flowing ∧
      ∃ hw lw, x.marks = some (hw, lw) ∧ hw ≤ x.queue.length + 1
    (x.queue.length < s.intakeCapacity p →
      (¬ holds → s.push p r = s.setPort p joined) ∧
      (holds → s.push p r =
        ((s.setPort p { joined with
            flow := .held
            refresh := some (s.ref.smc + BitVec.ofNat 32 (x.par.holdTime / 2)) }).sendPort p
          (.hold x.par.holdTime)).raise ⟨.holdSent, some p, none, none, 0⟩)) ∧
    (s.intakeCapacity p ≤ x.queue.length →
      ((∃ w, r = .word w) → s.push p r =
        (s.setAlert .intakeOverflow (some p)).raise ⟨.wordDropped, some p, none, some .overflow, 0⟩) ∧
      ((∀ w, r ≠ .word w) → s.push p r = s.setAlert .intakeOverflow (some p)))

/-- Removals and refreshes of a HELD port (R32, R33): a removal that leaves at most LW records sends RESUME and ends the
HELD state; one that leaves more, or finds the port FLOWING, sends nothing. At its deadline the port sends HOLD again and
sets the next deadline; before it, nothing happens (log 4). A take sends its RESUME before its record has its effects (log 27). -/
def Obligations.HoldRefreshAndResume : Prop :=
  ∀ (s : State) (p : Port),
    let x := s.port p
    let taken := { x with queue := x.queue.tail }
    (∀ hw lw, x.marks = some (hw, lw) →
      (x.flow = .held → x.queue.length - 1 ≤ lw →
        s.removeHead p = (s.setPort p { taken with flow := .flowing, refresh := none }).sendPort p .resume) ∧
      (x.flow = .flowing ∨ lw < x.queue.length - 1 → s.removeHead p = s.setPort p taken)) ∧
    (∀ d, x.flow = .held → x.refresh = some d →
      (0 ≤ (s.ref.smc - d).toInt → exec (.refreshDeadlineExpiry p) s = .next (((s.setPort p { x with
          refresh := some (s.ref.smc + BitVec.ofNat 32 (x.par.holdTime / 2)) }).sendPort p
        (.hold x.par.holdTime)).raise ⟨.holdSent, some p, none, none, 0⟩)) ∧
      ((s.ref.smc - d).toInt < 0 → exec (.refreshDeadlineExpiry p) s = .next s))

/-- A STAMP on a WRITER port in RUN (R24, R25): its sample, arrival SMC minus tick read as signed, joins the window, which
keeps the newest 16; the STAMP that brings a STANDBY port to 4 samples makes it READY with a STATE message; a payload of
another length raises LINK_ERRORS. -/
def Obligations.StampJoinsWindow : Prop :=
  ∀ (s : State) (p : Port), s.mode = .run → (s.port p).par.kind = .writer →
    let t := s.refreshLink p
    (∀ b3 b2 b1 b0 : Byte,
      let window := (s.port p).window ++ [(s.ref.smc - be32 b3 b2 b1 b0).toInt]
      let newest := window.drop (window.length - 16)
      let joined := { t.port p with window := newest }
      ((t.port p).link = .standby → 4 ≤ newest.length →
        exec (.stamp p [b3, b2, b1, b0]) s =
          .next ((t.setPort p { joined with link := .ready }).sendPort p (.state .ready newest.length))) ∧
      ((t.port p).link ≠ .standby ∨ newest.length < 4 →
        exec (.stamp p [b3, b2, b1, b0]) s = .next (t.setPort p joined))) ∧
    (∀ payload : List Byte, payload.length ≠ 4 → payload.length ≤ 96 →
      exec (.stamp p payload) s = .next (t.raise ⟨.linkErrors, some p, none, none, 0⟩))

/-- Loss of a link (R19, R20, R49 to R51): the relay controller acts for the group, the port goes OFFLINE with what R20
leaves, STATE OFFLINE is sent, LINK_LOSS is raised and LINK_LOST is set. The taker's loss aborts the handover, the
yielder's completes it, and the on-air port's makes the group idle and closes the routed open cues, unless failover puts
the lowest-numbered READY member on air. The routed open cues close one service after another (R64, R65). Before the deadline
nothing happens (log 4). That an offset window without samples counts as an estimate of 0 concerns states that no run reaches
(log 30), and where the rules list several effects without an order it is that of the list (log 27). -/
def Obligations.LossOfLink : Prop :=
  (∀ (s : State) (g : Group), s.closeRouted g =
    (allServices.filter fun k => decide ((s.service k).liveRoute = some g)).foldl State.closeCue s) ∧
  ∀ (s : State) (p : Port) (d : Smc), (s.port p).silence = some d →
    let lost : State → State := fun t =>
      (((t.setPort p { t.port p with
          link := .offline
          lastHeard := none
          silence := none
          window := []
          history := []
          flow := .flowing
          refresh := none }).sendPort p (.state .offline 0)).raise ⟨.linkLoss, some p, none, none, 0⟩).setAlert
        .linkLost (some p)
    ((s.ref.smc - d).toInt < 0 → exec (.silenceDeadlineExpiry p) s = .next s) ∧
    (0 ≤ (s.ref.smc - d).toInt →
      ((s.port p).link ∈ ([.standby, .ready, .up] : List LinkState) →
        exec (.silenceDeadlineExpiry p) s = .next (lost s)) ∧
      (∀ g, (s.port p).par.group = some g →
        ((s.port p).link = .taking → ∀ q, (s.group g).yielding = some q →
          exec (.silenceDeadlineExpiry p) s = .next (lost ((s.setGroup g { s.group g with
            onAir := some q
            taking := none
            yielding := none
            yieldDeadline := none
            cut := none }).enterLink q .onAir))) ∧
        ((s.port p).link = .yielding → ∀ q, (s.group g).taking = some q → (s.group g).yielding = some p →
          let t := (s.setGroup g { s.group g with
            onAir := some q
            taking := none
            yielding := none
            yieldDeadline := none }).enterLink q .onAir
          exec (.silenceDeadlineExpiry p) s =
            .next (lost ((t.setPort p { t.port p with history := [] }).raise ⟨.handover, some q, none, none, 0⟩))) ∧
        ((s.port p).link = .onAir →
          ((s.group g).failover = false ∨ (∀ q, s.isMember q g → (s.port q).link ≠ .ready) →
            exec (.silenceDeadlineExpiry p) s =
              .next (lost ((s.setGroup g { s.group g with onAir := none }).closeRouted g))) ∧
          (∀ q h, (s.group g).failover = true → s.isMember q g → (s.port q).link = .ready →
            (∀ r, r < q → s.isMember r g → (s.port r).link ≠ .ready) → (s.port p).lastHeard = some h →
            let o := (estimate (s.port q).window).getD 0
            exec (.silenceDeadlineExpiry p) s = .next (lost ((((s.setGroup g { s.group g with
                onAir := some q
                cut := some h
                grant := some s.ref.smc }).sendPort q
              (.takeAnswer .granted (some (h - BitVec.ofInt 32 o + BitVec.ofNat 32 (s.port q).par.lag)))).enterLink q
              .onAir).raise ⟨.failover, some q, none, none, 0⟩))))))

/-! ### Relay groups -/

/-- A TAKE from a WRITER port in RUN (R39 to R42), after the refresh of its link: the refusals in their order, each an
answer and nothing else; in an idle group the port goes on air at once; against an on-air port a handover begins. A
granted answer carries the cut tick C − o + λ and precedes the STATE messages. -/
def Obligations.TakeDecision : Prop :=
  ∀ (s : State) (p : Port), s.mode = .run → (s.port p).par.kind = .writer →
    let t := s.refreshLink p
    let link := (t.port p).link
    let refused : TakeResult → Prop := fun r => exec (.take p) s = .next (t.sendPort p (.takeAnswer r none))
    ((s.port p).par.group = none → refused .noGroup) ∧
    (∀ g, (s.port p).par.group = some g →
      (link = .standby → refused .notReady) ∧
      (link ∈ ([.taking, .onAir, .yielding] : List LinkState) → refused .already) ∧
      (link = .ready → (s.group g).taking.isSome = true → refused .busy) ∧
      (link = .ready → (s.group g).taking = none →
        ∀ o ∈ (s.port p).window, (∀ x ∈ (s.port p).window, o ≤ x) →
        let tick := s.ref.smc - BitVec.ofInt 32 o + BitVec.ofNat 32 (s.port p).par.lag
        ((s.group g).onAir = none →
          exec (.take p) s = .next (((t.setGroup g { s.group g with
              onAir := some p
              cut := some s.ref.smc
              grant := some s.ref.smc }).sendPort p (.takeAnswer .granted (some tick))).enterLink p .onAir)) ∧
        (∀ q, (s.group g).onAir = some q →
          exec (.take p) s = .next ((((t.setGroup g { s.group g with
              onAir := none
              taking := some p
              yielding := some q
              cut := some s.ref.smc
              grant := some s.ref.smc
              yieldDeadline := some (s.ref.smc + BitVec.ofNat 32 (s.group g).yieldTimeout) }).sendPort p
            (.takeAnswer .granted (some tick))).enterLink p .taking).enterLink q .yielding))))

/-- A RELEASE from a WRITER port in RUN (R48, R64): from ON_AIR the group goes idle, keeping C and g_t, and the open cue of
every service routed to it closes, one service after another, timed as any close (R65), and of no other; from YIELDING the
handover completes; otherwise only the answer NOT_ON_AIR is sent. -/
def Obligations.ReleaseDecision : Prop :=
  (∀ (s : State) (g : Group), s.closeRouted g =
    (allServices.filter fun k => decide ((s.service k).liveRoute = some g)).foldl State.closeCue s) ∧
  ∀ (s : State) (p : Port), s.mode = .run → (s.port p).par.kind = .writer →
    let t := s.refreshLink p
    let link := (t.port p).link
    (link ∈ ([.standby, .ready, .taking] : List LinkState) →
      exec (.release p) s = .next (t.sendPort p (.releaseAnswer false))) ∧
    (∀ g, (s.port p).par.group = some g →
      (link = .onAir →
        let u := (t.setGroup g { s.group g with onAir := none }).closeRouted g
        exec (.release p) s = .next ((u.sendPort p (.releaseAnswer true)).enterLink p .ready) ∧
        ∀ k, ((s.service k).liveRoute = some g → (u.service k).openCue = none) ∧
          ((s.service k).liveRoute ≠ some g → u.service k = s.service k)) ∧
      (link = .yielding →
        exec (.release p) s = .next ((t.sendPort p (.releaseAnswer true)).completeHandover g false)))

/-- Completion of a handover (R45) and the yield deadline (R47): the taker goes on air and the yielder READY with its
retract history emptied; taking port, yielding port and deadline become absent; C and g_t stay; HANDOVER is raised for the
taker. Before the deadline, and without one, nothing happens (log 4). Its effects follow the order of the rule's list (log 27). -/
def Obligations.HandoverCompletes : Prop :=
  (∀ (s : State) (g : Group) (p q : Port), (s.group g).taking = some p → (s.group g).yielding = some q →
    let t := ((s.setGroup g { s.group g with
      onAir := some p
      taking := none
      yielding := none
      yieldDeadline := none }).enterLink p .onAir).enterLink q .ready
    let ended := (t.setPort q { t.port q with history := [] }).raise ⟨.handover, some p, none, none, 0⟩
    s.completeHandover g false = ended ∧
    ∀ d, (s.group g).yieldDeadline = some d →
      (0 ≤ (s.ref.smc - d).toInt → exec (.yieldDeadlineExpiry g) s = .next ended) ∧
      ((s.ref.smc - d).toInt < 0 → exec (.yieldDeadlineExpiry g) s = .next s)) ∧
  (∀ (s : State) (g : Group), (s.group g).yieldDeadline = none → exec (.yieldDeadlineExpiry g) s = .next s)

/-- C, B_L and E_last become absent once the SMC has passed them by 2^30 ms, and stay until then (R37, R86, R145): commanded
before, the event does nothing (log 4). -/
def Obligations.AgedTimesBecomeAbsent : Prop :=
  ∀ (s : State) (g : Group) (k : Service) (x : Smc),
    ((s.group g).cut = some x →
      (2 ^ 30 ≤ (s.ref.smc - x).toInt →
        exec (.cutTimeAged g) s = .next (s.setGroup g { s.group g with cut := none })) ∧
      ((s.ref.smc - x).toInt < 2 ^ 30 → exec (.cutTimeAged g) s = .next s)) ∧
    ((s.service k).liveStart = some x →
      (2 ^ 30 ≤ (s.ref.smc - x).toInt →
        exec (.liveStartAged k) s = .next (s.setService k { s.service k with liveStart := none })) ∧
      ((s.ref.smc - x).toInt < 2 ^ 30 → exec (.liveStartAged k) s = .next s)) ∧
    ((s.service k).lastChange = some x →
      (2 ^ 30 ≤ (s.ref.smc - x).toInt →
        exec (.lastChangeAged k) s = .next (s.setService k { s.service k with lastChange := none })) ∧
      ((s.ref.smc - x).toInt < 2 ^ 30 → exec (.lastChangeAged k) s = .next s))

/-! ### Words and cues -/

/-- The speech estimate (R79, R80): stroke tick plus offset estimate minus listening lag, modulo 2^32, held within the
20 000 ms that end at the arrival; STALE_CLAMPED is raised with the port when the estimate is clamped at its early end, and
by no other estimate. -/
def Obligations.SpeechEstimate : Prop :=
  ∀ (s : State) (p : Port) (w : WordRecord), ∀ o ∈ (s.port p).window, (∀ x ∈ (s.port p).window, o ≤ x) →
    let raw := w.tick + BitVec.ofInt 32 o - BitVec.ofNat 32 (s.port p).par.lag
    let early := w.arrival - 20000#32
    (0 < (raw - w.arrival).toInt → s.speechFor p w = w.arrival ∧ s.staleEvent p w = s) ∧
    ((raw - w.arrival).toInt ≤ 0 → (raw - early).toInt < 0 →
      s.speechFor p w = early ∧ s.staleEvent p w = s.raise ⟨.staleClamped, some p, none, none, 0⟩) ∧
    ((raw - w.arrival).toInt ≤ 0 → 0 ≤ (raw - early).toInt → s.speechFor p w = raw ∧ s.staleEvent p w = s)

/-- The take of a WORD record (R27, R29, R43, R44): from a port that is not ON_AIR and not YIELDING it is dropped as
NOT_ON_AIR; otherwise its estimate is formed now and tested against C. A word on the yielder's far side of the cut completes
the handover. A TAKING port's queue is paused, and in CONFIG nothing is taken: commanded then, the take does nothing (log 4).
That a take is a command of its own, and that it sends its RESUME before the record has its effects, are the model's (log 9,
log 27). -/
def Obligations.WordTake : Prop :=
  ∀ (s : State) (p : Port) (w : WordRecord) (rest : List IntakeRecord), (s.port p).queue = .word w :: rest →
    let t := s.removeHead p
    let link := (s.port p).link
    (s.mode = .config ∨ link = .taking → exec (.wordRecordTake p) s = .next s) ∧
    (s.mode = .run → link ∈ ([.offline, .standby, .ready] : List LinkState) →
      exec (.wordRecordTake p) s = .next (t.raise ⟨.wordDropped, some p, none, some .notOnAir, 0⟩)) ∧
    (s.mode = .run → ∀ g, (s.port p).par.group = some g →
      let e := s.speechFor p w
      let u := t.staleEvent p w
      let accepted := u.fanOut p g ⟨⟨w.text, p, e, w.truncated⟩, w.speakerChange, w.sentenceEnd⟩
      (link = .onAir →
        ((s.group g).cut = none → exec (.wordRecordTake p) s = .next accepted) ∧
        (∀ c, (s.group g).cut = some c →
          (0 ≤ (e - c).toInt → exec (.wordRecordTake p) s = .next accepted) ∧
          ((e - c).toInt < 0 →
            exec (.wordRecordTake p) s = .next (u.raise ⟨.wordDropped, some p, none, some .cutBefore, 0⟩)))) ∧
      (link = .yielding → ∀ c, (s.group g).cut = some c →
        ((e - c).toInt < 0 → exec (.wordRecordTake p) s = .next accepted) ∧
        (0 ≤ (e - c).toInt →
          exec (.wordRecordTake p) s =
            .next ((u.raise ⟨.wordDropped, some p, none, some .cutAfter, 0⟩).completeHandover g false))))

/-- Fan-out and placement of an accepted word (R55, R57 to R62, R67): NO_ROUTE where no live route names the group; each
routed service, S0 to S3, admits it when the segment in force at its estimate is LIVE; each admitting service places one copy
in turn, and one history entry holds every placement in that order; a word that none admits makes no entry. A speaker change and an overflow close the open cue
first; the word goes on the row that the fit rule gives, cut to the width; a sentence end closes a cue of at least half
its width; and the word joins its port's retract history. The placement of a word whose sentence end closes the cue is GONE
exactly when the cut test of that close discards the cue (R88): the test of the times that O41 writes out. -/
def Obligations.WordPlaced : Prop :=
  (∀ (s : State) (p : Port) (g : Group) (a : AdmittedWord),
    let routed := allServices.filter fun k => decide ((s.service k).liveRoute = some g)
    let live : Service → Bool := fun k =>
      let v := s.service k
      match v.lastChange with
      | some x => if (a.word.speech - x).toInt < 0 then decide (v.segPrevious = .live) else decide (v.segCurrent = .live)
      | none => decide (v.segCurrent = .live)
    let judged := routed.foldl (fun t k =>
      t.raise (if live k then ⟨.wordAccepted, some p, some k, none, 0⟩ else ⟨.wordDropped, some p, some k, some .segment, 0⟩)) s
    let admitted := routed.filter live
    (routed = [] → s.fanOut p g a = s.raise ⟨.wordDropped, some p, none, some .noRoute, 0⟩) ∧
    (routed ≠ [] → admitted = [] → s.fanOut p g a = judged) ∧
    (admitted ≠ [] →
      let r := State.placeAll a admitted judged
      s.fanOut p g a = r.1.setPort p { r.1.port p with
        history := ((r.1.port p).history ++ [r.2]).drop ((r.1.port p).history.length + 1 - 8) })) ∧
  (∀ (s : State) (a : AdmittedWord),
    State.placeAll a [] s = (s, []) ∧
    ∀ k ks, State.placeAll a (k :: ks) s =
      let x := s.placeIn k a
      let others := State.placeAll a ks x.1
      (others.1, x.2 :: others.2)) ∧
  (∀ (s : State) (k : Service) (a : AdmittedWord),
    let counted : State → State := fun t => t.setService k { t.service k with cueCounter := (t.service k).cueCounter + 1 }
    let opened : State → Bool → CueBody := fun t mark =>
      ⟨(t.service k).cueCounter + 1, (t.service k).par.rowWidth, (t.service k).par.rowsPerCue, [], [], mark⟩
    let closed := s.closeCue k
    ((s.service k).openCue = none →
      s.placeIn k a = (counted s).putWord k (opened s a.speakerChange) a) ∧
    (∀ o, (s.service k).openCue = some o →
      (a.speakerChange = true → s.placeIn k a = (counted closed).putWord k (opened closed true) a) ∧
      (a.speakerChange = false → o.body.fit a.word.text.length = .overflow →
        s.placeIn k a = (counted closed).putWord k (opened closed false) a) ∧
      (a.speakerChange = false → o.body.fit a.word.text.length ≠ .overflow →
        s.placeIn k a = s.putWord k o.body a))) ∧
  (∀ (b : CueBody) (m : Nat),
    (b.row1 = [] → b.fit m = .row1) ∧
    (b.row1 ≠ [] → b.row2 = [] →
      (rowLength b.row1 + 1 + m ≤ b.width → b.fit m = .row1) ∧
      (b.width < rowLength b.row1 + 1 + m → b.fit m = if b.formedRows = 2 then .row2 else .overflow)) ∧
    (b.row1 ≠ [] → b.row2 ≠ [] → b.fit m = if rowLength b.row2 + 1 + m ≤ b.width then .row2 else .overflow)) ∧
  (∀ (s : State) (k : Service) (b : CueBody) (a : AdmittedWord),
    let w : PlacedWord := { a.word with
      text := a.word.text.take b.width
      truncated := a.word.truncated || decide (b.width < a.word.text.length) }
    let put : CueBody → Nat → Nat → Prop := fun c row pos =>
      let t := s.setService k { s.service k with
        openCue := some ⟨c, s.ref.smc, s.ref.smc + BitVec.ofNat 32 (s.service k).par.idleClose⟩ }
      (a.sentenceEnd = false ∨ c.count < b.width / 2 → s.putWord k b a = (t, ⟨k, b.id, row, pos, .amendable⟩)) ∧
      (a.sentenceEnd = true → b.width / 2 ≤ c.count →
        s.putWord k b a = (t.closeCue k, ⟨k, b.id, row, pos, if t.closeCuts k then .gone else .amendable⟩))
    (b.fit a.word.text.length = .row1 → put { b with row1 := b.row1 ++ [w] } 1 (b.row1.length + 1)) ∧
    (b.fit a.word.text.length = .row2 → put { b with row2 := b.row2 ++ [w] } 2 (b.row2.length + 1))) ∧
  (∀ (s : State) (k : Service) (o : OpenCue), (s.service k).openCue = some o →
    let v := s.service k
    let time := (timeCue s.ref v o.body s.ref.smc).record.present
    s.closeCuts k = true ↔
      (∃ e ∈ v.switches, (e.body = .brk ∨ ∃ id x, e.body = .package id x) ∧ (e.switch - time).toInt ≤ 0) ∨
      (v.kindInForce ≠ .live ∧ ¬ ∃ e ∈ v.switches, e.body = .live ∧ (e.switch - time).toInt ≤ 0))

/-- A reflow never overflows (R60, R69): a cue that stands as the fit rule forms it, with each row within the formed width
and at most the formed rows, stands so after the removal of any word, with the remaining words in their order. And every
step keeps the law of R60: each open and each queued cue holds a word, keeps the row law and stands as the fit rule forms
it. -/
def Obligations.ReflowNeverOverflows : Prop :=
  (∀ (b : CueBody) (i : Nat), b.rowsFit → b.formed → i < b.words.length →
    (b.remove i).words = b.words.eraseIdx i ∧ (b.remove i).rowsFit ∧ (b.remove i).formed) ∧
  (∀ s t, TextLaw s → step s = .next t → TextLaw t)

/-- The take of a RETRACT of k words (R72, R73): it works back from the newest entry, for at most k words, stops with
NO_HISTORY at an empty history and with TOO_LATE at an entry with a COMMITTED placement, and takes each other entry out of
the history and each of its words out of the cue of every AMENDABLE placement; it answers removed r, refused k − r and the
reason, which is NONE exactly when r is k, and RETRACT_REFUSED_WORDS is raised k − r times. No entry it takes holds a
COMMITTED placement, and the entries that remain are the older ones, each placement with its service, cue and state. A
removal from an open cue leaves the cue open, with its id, its marks and its times, unless no word remains (R70); one from a
queued cue recomputes the reading time and keeps all else, unless no word remains (R71); and every placement that names the
cue is brought up to date with the rows rebuilt (R69). A paused queue keeps its RETRACT, and so
does the part in CONFIG: commanded then, the take does nothing (log 4).
That a take is a command of its own, and that it sends its RESUME before the record has its effects, are the model's (log 9,
log 27). -/
def Obligations.RetractAnswered : Prop :=
  (∀ (s : State) (p : Port), s.mode = .config ∨ (s.port p).link = .taking →
    exec (.retractRecordTake p) s = .next s) ∧
  (∀ (s : State) (p : Port) (k : Nat) (arrival : Smc) (rest : List IntakeRecord),
    s.mode = .run → (s.port p).link ≠ .taking → (s.port p).queue = .retract k arrival :: rest →
    let e := State.retractLoop p k 0 (s.removeHead p)
    exec (.retractRecordTake p) s =
      .next ((e.state.sendPort p (.retractAnswer e.removed (k - e.removed) e.reason)).raiseTimes
        ⟨.retractRefusedWords, some p, none, none, 0⟩ (k - e.removed))) ∧
  (∀ (s : State) (p : Port) (r : Nat),
    State.retractLoop p 0 r s = ⟨s, r, .none⟩ ∧
    ∀ k, ((s.port p).history = [] → State.retractLoop p (k + 1) r s = ⟨s, r, .noHistory⟩) ∧
      (∀ older e, (s.port p).history = older ++ [e] →
        ((∃ x ∈ e, x.state = .committed) → State.retractLoop p (k + 1) r s = ⟨s, r, .tooLate⟩) ∧
        ((∀ x ∈ e, x.state ≠ .committed) →
          State.retractLoop p (k + 1) r s = State.retractLoop p k (r + 1)
            ((s.setPort p { s.port p with history := older }).withdraw e)))) ∧
  (∀ (s : State) (p : Port) (k : Nat),
    let e := State.retractLoop p k 0 s
    let history := (s.port p).history
    let kept := history.length - e.removed
    let named : List HistoryEntry → List (List (Service × CueId × PlacementState)) :=
      fun l => l.map fun x => x.map fun y => (y.service, y.cue, y.state)
    e.removed ≤ k ∧ e.removed ≤ history.length ∧ (e.reason = .none ↔ e.removed = k) ∧
    (e.reason = .noHistory → kept = 0) ∧
    (e.reason = .tooLate → ∃ x, (history.take kept).getLast? = some x ∧ ∃ y ∈ x, y.state = .committed) ∧
    (∀ x ∈ history.drop kept, ∀ y ∈ x, y.state ≠ .committed) ∧
    named (e.state.port p).history = named (history.take kept) ∧
    SameBut [.ports, .services] s e.state) ∧
  (∀ (s : State) (x : Placement) (e : HistoryEntry),
    s.withdraw [] = s ∧ s.withdraw (x :: e) = (if x.state = .amendable then s.removePlaced x else s).withdraw e) ∧
  (∀ (s : State) (x : Placement),
    let v := s.service x.service
    let place : CueBody → Nat → Nat → Nat := fun b row pos => if row = 1 then pos - 1 else b.row1.length + (pos - 1)
    let updated : CueBody → Placement → Placement := fun b y =>
      let i := place b x.row x.pos
      let left := b.remove i
      let j := place b y.row y.pos
      let j' := if i < j then j - 1 else j
      if y.service = x.service ∧ y.cue = x.cue ∧ y.state = .amendable then
        { y with
          row := if j' < left.row1.length then 1 else 2
          pos := if j' < left.row1.length then j' + 1 else j' - left.row1.length + 1 }
      else y
    let ends : CueBody → ServiceState → Prop := fun b w => s.removePlaced x = { s with
      services := s.services.set x.service w
      ports := s.ports.map fun y => { y with history := y.history.map fun e => e.map (updated b) } }
    (∀ o, v.openCue = some o → o.body.id = x.cue →
      let left := o.body.remove (place o.body x.row x.pos)
      ends o.body { v with openCue := if left.words = [] then none else some { o with body := left } }) ∧
    (∀ before c after, (∀ o, v.openCue = some o → o.body.id ≠ x.cue) → v.queue = before ++ c :: after →
      c.body.id = x.cue → (∀ y ∈ before ++ after, y.body.id ≠ x.cue) →
      let left := c.body.remove (place c.body x.row x.pos)
      let n := rowLength left.row1 + rowLength left.row2
      let reading := min (Max.max ((n * 1000 + v.par.readingRate - 1) / v.par.readingRate) v.par.minReading) v.par.maxHold
      ends c.body { v with queue :=
        if left.words = [] then before ++ after else before ++ { c with body := left, reading := reading } :: after }) ∧
    ((∀ o, v.openCue = some o → o.body.id ≠ x.cue) → (∀ y ∈ v.queue, y.body.id ≠ x.cue) → s.removePlaced x = s))

/-- The idle deadline (R63) and the close of an open cue, timed in the stages of R83 to R91: target, close limit, hold
limit against the previous cue, live boundary, snap, reading time, cut test, lateness and phase. A cut cue's placements
become GONE with CUE_CUT; a surviving cue is inserted in its queue.
Before the deadline nothing happens (log 4). -/
def Obligations.CueClose : Prop :=
  (∀ (s : State) (k : Service), (s.service k).openCue = none →
    exec (.idleDeadlineExpiry k) s = .next s ∧ s.closeCue k = s ∧ s.closeCuts k = false) ∧
  (∀ (s : State) (k : Service) (o : OpenCue), (s.service k).openCue = some o →
    ((s.ref.smc - o.idleDeadline).toInt < 0 → exec (.idleDeadlineExpiry k) s = .next s) ∧
    (0 ≤ (s.ref.smc - o.idleDeadline).toInt → exec (.idleDeadlineExpiry k) s = .next (s.closeCue k)) ∧
    let v := s.service k
    let num : Nat → Smc := BitVec.ofNat 32
    let max : Smc → Smc → Smc := fun a b => if 0 < (b - a).toInt then b else a
    let n := rowLength o.body.row1 + rowLength o.body.row2
    let start := o.body.anchor + num v.par.delay
    let target := start - num v.par.lead
    let limit := s.ref.smc + num v.par.closeMargin
    let t1 := max target limit
    let hold := v.previous.map fun x =>
      x.1 + num (match v.phase with | .normal => x.2 | .catchup => v.par.catchupFloor) + num v.par.gap
    let t2 := match hold with | none => t1 | some h => max t1 h
    let t3 := match v.liveStart with | none => t2 | some b => max t2 b
    let time := s.ref.snap t3
    let late : Bool := decide (0 < (limit - target).toInt)
    let held : Bool := match hold with | none => false | some h => decide (0 < (h - t1).toInt)
    let reading := min (Max.max ((n * 1000 + v.par.readingRate - 1) / v.par.readingRate) v.par.minReading) v.par.maxHold
    let lateness := (time - start).toInt
    let cut := (∃ e ∈ v.switches, (e.body = .brk ∨ ∃ id x, e.body = .package id x) ∧ (e.switch - time).toInt ≤ 0) ∨
      (v.kindInForce ≠ .live ∧ ¬ ∃ e ∈ v.switches, e.body = .live ∧ (e.switch - time).toInt ≤ 0)
    let closed := (((s.setService k { v with openCue := none }).raise ⟨.cueClosed, none, some k, none, 0⟩).raiseIf late
      ⟨.cueLateClose, none, some k, none, 0⟩).raiseIf held ⟨.cueHeld, none, some k, none, 0⟩
    let phase := match v.phase with
      | .normal => if (v.par.lateLimit : Int) < lateness then .catchup else .normal
      | .catchup => if lateness < (v.par.lateLimit / 2 : Nat) then .normal else .catchup
    (s.closeCuts k = true ↔ cut) ∧
    (cut → s.closeCue k = (closed.markCue k o.body.id .gone).raise ⟨.cueCut, none, some k, none, 0⟩) ∧
    (¬ cut → s.closeCue k = (closed.setService k { v with
        openCue := none
        lastLateness := some lateness
        phase := phase }).insertCue k ⟨o.body, s.ref.smc, reading, time, lateness, late, held⟩)) ∧
  (∀ (v : ServiceState),
    (∀ c, v.queue.getLast? = some c → v.previous = some (c.present, c.reading)) ∧
    (v.queue = [] →
      (∀ c, v.committed = some c → (∀ x, c.source = .live x → v.previous = some (x.present, x.reading)) ∧
        (∀ x, c.source = .prepared x → v.previous = some (x.present, x.duration))) ∧
      (v.committed = none →
        (v.display = .blank → v.previous = none) ∧
        (∀ r, v.display = .showing r →
          v.previous = some (if 0 < (r.shown - r.present).toInt then r.shown else r.present, r.hold)))))

/-- A timed cue joins its cue queue (R103, R104): at the tail where there is room; into a full queue the head leaves with
its placements GONE, CUE_SKIPPED is raised, CUE_OVERFLOW is set with the service, and the occupancy stays. A placement takes
a state with its cue when it is AMENDABLE and names the cue, in every port's history, and nothing else changes (R68). -/
def Obligations.CueInsertion : Prop :=
  (∀ (s : State) (k : Service) (id : CueId) (st : PlacementState), s.markCue k id st = { s with
    ports := s.ports.map fun y => { y with history := y.history.map fun e => e.map fun x =>
      if x.service = k ∧ x.cue = id ∧ x.state = .amendable then { x with state := st } else x } }) ∧
  ∀ (s : State) (k : Service) (c : CueRecord),
    let v := s.service k
    (v.queue.length < s.queueCapacity k → s.insertCue k c = s.setService k { v with queue := v.queue ++ [c] }) ∧
    (∀ h rest, v.queue = h :: rest → s.queueCapacity k ≤ v.queue.length →
      s.insertCue k c = (((s.setService k { v with queue := rest ++ [c] }).markCue k h.body.id .gone).raise
        ⟨.cueSkipped, none, some k, none, 0⟩).setAlert .cueOverflow (some ⟨k.val, by omega⟩))

/-- Cues join in order (R85, R87, R102): a cue closed while the queue has a tail is given a presentation time later than
the tail's, for a hold and gap of at least 1 ms, with every time within 2^29 ms of the current SMC, and B_L no more than the
2^30 ms and a little behind after which it is absent; so the close of a cue keeps the presentation times of a queue strictly
rising, and every queued cue's later than the shown SMC of the cue on screen. The commit step leaves no cue queued that is
due, so a cue shown at its boundary is shown before the time of every cue still queued. In every step the cues that stay in
a queue keep their ids, their times and their order, those that join were closed in the step and stand behind them, and the
cue on screen was on screen before or was shown at the SMC that the step leaves; so where none joins, the queue stays
rising. -/
def Obligations.CuesJoinInOrder : Prop :=
  let near : State → Smc → Prop := fun s x => -(2 ^ 29) ≤ (x - s.ref.smc).toInt ∧ (x - s.ref.smc).toInt ≤ 2 ^ 29
  let live : State → Smc → Prop := fun s x =>
    -(2 ^ 30 + 2 ^ 20) ≤ (x - s.ref.smc).toInt ∧ (x - s.ref.smc).toInt ≤ 2 ^ 29
  (∀ (s : State) (k : Service) (b : CueBody) (tail : CueRecord),
    let v := s.service k
    let hold := (match v.phase with | .normal => tail.reading | .catchup => v.par.catchupFloor) + v.par.gap
    v.queue.getLast? = some tail → 1 ≤ hold → hold ≤ 2 ^ 20 → near s tail.present → near s b.anchor →
    (∀ x, v.liveStart = some x → live s x) →
    v.par.delay ≤ 12000 → v.par.lead ≤ 1000 → v.par.closeMargin ≤ 1000 →
    0 < ((timeCue s.ref v b s.ref.smc).record.present - tail.present).toInt) ∧
  (∀ (s : State) (k : Service),
    let v := s.service k
    (∀ c ∈ v.queue, near s c.present ∧ 1 ≤ c.reading ∧ c.reading ≤ 2 ^ 19) →
    (∀ o, v.openCue = some o → near s o.body.anchor) → (∀ x, v.liveStart = some x → live s x) →
    1 ≤ v.par.catchupFloor → v.par.catchupFloor ≤ 2 ^ 19 → v.par.gap ≤ 2 ^ 19 →
    v.par.delay ≤ 12000 → v.par.lead ≤ 1000 → v.par.closeMargin ≤ 1000 →
    (v.rising → ((s.closeCue k).service k).rising) ∧
    (1 ≤ v.par.closeMargin → (∀ x, v.previous = some x → near s x.1 ∧ x.2 ≤ 2 ^ 19) →
      (∀ r, v.display = .showing r → near s r.shown ∧ 0 ≤ (s.ref.smc - r.shown).toInt) →
      v.behindShown → ((s.closeCue k).service k).behindShown)) ∧
  (∀ (s : State) (k : Service), (s.service k).rising → (∀ c ∈ (s.service k).queue, near s c.present) →
    (∀ x ∈ s.preparedPart k, near s x.present) →
    ∀ c ∈ ((s.commitStep k).service k).queue,
      0 < (c.present - (s.ref.smc + BitVec.ofNat 32 (s.ref.rate.step s.ref.phase))).toInt ∧
        0 < (c.present - s.ref.smc).toInt) ∧
  (∀ (s : State) (k : Service) (c : Committed), (∀ x ∈ (s.service k).queue, 0 < (x.present - s.ref.smc).toInt) →
    ((s.sendShow k c).service k).behindShown ∧ ((s.sendShow k c).service k).queue = (s.service k).queue) ∧
  (∀ c s t k, exec c s = .next t →
    let record : CueRecord → CueId × Smc × Smc := fun x => (x.body.id, x.present, x.close)
    (∃ kept joined, (t.service k).queue.map record = kept ++ joined ∧ kept.Sublist ((s.service k).queue.map record) ∧
      ∀ x ∈ joined, x.2.2 = s.ref.smc ∨ x.2.2 = t.ref.smc) ∧
    ((s.service k).rising → (∀ x ∈ (t.service k).queue, x.close ≠ s.ref.smc ∧ x.close ≠ t.ref.smc) →
      (t.service k).rising) ∧
    ∀ r, (t.service k).display = .showing r →
      r.shown = t.ref.smc ∨ ∃ r', (s.service k).display = .showing r' ∧ r'.shown = r.shown)

/-! ### Output and placement -/

/-- Requests made of a display and the sends that settle them (R115, R116, R122, R123, R136): the clear deadline becomes
absent as it expires and asks for CLEAR; a MOVE never replaces a pending CLEAR; a BLANK display takes no request; a sent
SHOW withdraws any control, accounts the lateness of a live cue, and makes the cover check for a cue whose map-changed mark
is set; a sent MOVE changes the band alone; and the bytes of a SHOW are those of its layout (R184). CLEAR_DEADLINE_EXPIRY as a
command does what step 1 of a boundary does (log 7); before the deadline nothing happens (log 4). -/
def Obligations.DisplayRequestsAndSends : Prop :=
  ∀ (s : State) (k : Service),
    let v := s.service k
    (v.display = .blank → exec (.clearDeadlineExpiry k) s = .next s ∧ v.requestClear = v ∧ ∀ b, v.requestMove b = v) ∧
    (∀ r, v.display = .showing r →
      (r.clearDeadline = none → exec (.clearDeadlineExpiry k) s = .next s) ∧
      (∀ d, r.clearDeadline = some d →
        ((s.ref.smc - d).toInt < 0 → exec (.clearDeadlineExpiry k) s = .next s) ∧
        (0 ≤ (s.ref.smc - d).toInt →
          exec (.clearDeadlineExpiry k) s = .next (s.setService k { v with
            display := .showing { r with clearDeadline := none }
            control := .clear }))) ∧
      v.requestClear = { v with control := .clear } ∧
      (∀ b, v.requestMove b = if v.control = .clear then v else { v with control := .move b })) ∧
    (v.control = .clear →
      s.sendControl k = (s.setService k { v with display := .blank, control := .none }).sendOutput (.clear k)) ∧
    (∀ b r, v.control = .move b → v.display = .showing r →
      s.sendControl k = ((s.setService k { v with
          display := .showing { r with band := b }
          control := .none }).sendOutput (.move k b)).raise ⟨.moveSent, none, some k, none, 0⟩) ∧
    (∀ c x, c.source = .live x →
      let l := (s.ref.smc - (x.body.anchor + BitVec.ofNat 32 v.par.delay)).toInt
      let shown := ((s.setService k { v with
          committed := none
          display := .showing ⟨x.body.id.toNat, none, c.band, s.ref.smc,
            some (s.ref.smc + BitVec.ofNat 32 v.par.maxHold), x.present, x.reading, some x.body.anchor, c.conflict⟩
          control := .none
          shownLateness := some l }).sendOutput
        (.showCue k x.body.id.toNat none c.band x.body.speaker x.body.truncated (rowText x.body.row1)
          (if x.body.row2 = [] then none else some (rowText x.body.row2)))).raise
            ⟨.latenessMs, none, some k, none, l.toNat⟩
      s.sendShow k c = if c.mapChanged = true then shown.coverCheck k else shown) ∧
    (∀ c x, c.source = .prepared x →
      let shown := (s.setService k { v with
          committed := none
          display := .showing ⟨x.position, some x.package, c.band, s.ref.smc,
            some (s.ref.smc + BitVec.ofNat 32 x.duration), x.present, x.duration, none, c.conflict⟩
          control := .none }).sendOutput
        (.showCue k x.position (some x.package) c.band x.speaker x.truncated x.row1 x.row2)
      s.sendShow k c = if c.mapChanged = true then shown.coverCheck k else shown) ∧
    (∀ (id : Nat) (source : Option PackageId) (top : Nat) (speaker truncated : Bool) (row1 : Text),
      let byte : Nat → Byte := BitVec.ofNat 8
      let package := (source.getD 0).toNat
      let flags := (if speaker = true then 1 else 0) + (if truncated = true then 2 else 0)
      let payload : Nat → List Byte := fun height => [byte k.val, byte (id / 256), byte id, byte (package / 256),
        byte package, byte top, byte height, byte flags, byte row1.length] ++ row1
      (OutputMsg.showCue k id source ⟨top, 1⟩ speaker truncated row1 none).frame = some (buildFrame 0x40 (payload 1)) ∧
      ∀ row2 : Text, (OutputMsg.showCue k id source ⟨top, 2⟩ speaker truncated row1 (some row2)).frame =
        some (buildFrame 0x40 (payload 2 ++ byte row2.length :: row2)))

/-- The inserter's answers, what is dropped, and the accounting of step 5 (R121, R124, R125, R139): READY and BUSY set the
inserter state alone; a frame that fails or is of another type has no effect on either link; at a BUSY boundary the busy
count rises with OUTPUT_BUSY_FRAMES and sets OUTPUT_STALLED at 25; at a READY one it is 0 and each enabled service that
still holds a committed cue raises CUE_DEFERRED. OUTPUT_STALLED as a command repeats the alert at 25 (log 8). -/
def Obligations.InserterAnswers : Prop :=
  ∀ s : State,
    exec .ready s = .next { s with inserter := .ready } ∧
    exec .busy s = .next { s with inserter := .busy } ∧
    exec .outputFrameDropped s = .next s ∧
    exec .automationFrameDropped s = .next s ∧
    (s.busyCount = 25 → exec .outputStalled s = .next (s.setAlert .outputStalled none)) ∧
    (s.busyCount ≠ 25 → exec .outputStalled s = .next s) ∧
    (s.inserter = .busy →
      let t := State.raise { s with busyCount := s.busyCount + 1 } ⟨.outputBusyFrames, none, none, none, 0⟩
      s.account = if s.busyCount = 24 then t.setAlert .outputStalled none else t) ∧
    (s.inserter = .ready →
      let held := allServices.filter fun k => (s.service k).par.enabled && (s.service k).committed.isSome
      s.account = { held.foldl (fun t k => t.raise ⟨.cueDeferred, none, some k, none, 0⟩) s with busyCount := 0 })

/-- The output of any command but STOP costs at most the frame budget, and nothing is sent while the inserter is BUSY
(R117, R118, R119, R125). -/
def Obligations.OutputWithinBudget : Prop :=
  ∀ c s t, 96 ≤ s.budget → c ≠ .stop → exec c s = .next t →
    ∃ ms, t.sent.output = s.sent.output ++ ms ∧ (ms.map OutputMsg.cost).sum ≤ s.budget ∧
      (s.inserter = .busy → ms = [])

/-- Steps 3 and 4 (R117 to R119, R125): while the inserter is BUSY neither changes anything; otherwise the enabled services are visited from S0 to S3 for their controls, and then for their
captions, in STRICT from S0 to S3 and in WRR from the service after the round-robin position on, with what the messages
before have left of the frame budget. Step 3 for one service: its pending control is sent for 4 units, unless its committed
slot holds a cue. Step 4 for one service: in STRICT a committed cue is sent when its cost, 8 plus its character count, fits
what remains of the budget; in WRR the deficit is raised by 32 times the weight to at most 512 and must cover the cost too,
and falls by it as the round-robin position moves; a service without a committed cue has deficit 0. -/
def Obligations.CaptionsServed : Prop :=
  (∀ (s : State) (left : Nat),
    let enabled : Service → Bool := fun k => (s.service k).par.enabled
    let r := s.roundRobin
    (s.inserter = .busy → Sending.controls ⟨s, left⟩ = ⟨s, left⟩ ∧ Sending.captions ⟨s, left⟩ = ⟨s, left⟩) ∧
    (s.inserter = .ready →
      Sending.controls ⟨s, left⟩ = (allServices.filter enabled).foldl Sending.control ⟨s, s.budget⟩ ∧
      (s.schedMode = .strict →
        Sending.captions ⟨s, left⟩ = (allServices.filter enabled).foldl Sending.strict ⟨s, left⟩) ∧
      (s.schedMode = .wrr →
        Sending.captions ⟨s, left⟩ = ([r + 1, r + 2, r + 3, r].filter enabled).foldl Sending.wrr ⟨s, left⟩))) ∧
  (∀ (s : State) (left : Nat) (k : Service),
    let v := s.service k
    (v.committed ≠ none ∨ v.control = .none → Sending.control ⟨s, left⟩ k = ⟨s, left⟩) ∧
    (v.committed = none → v.control ≠ .none → Sending.control ⟨s, left⟩ k = ⟨s.sendControl k, left - 4⟩)) ∧
  ∀ (s : State) (left : Nat) (k : Service),
    let v := s.service k
    let cost : CommittedSource → Nat := fun x => match x with
      | .live c => 8 + (rowLength c.body.row1 + rowLength c.body.row2)
      | .prepared y => 8 + (y.row1.length + (y.row2.getD []).length)
    (v.committed = none →
      Sending.strict ⟨s, left⟩ k = ⟨s, left⟩ ∧
      Sending.wrr ⟨s, left⟩ k = ⟨s.setService k { v with deficit := 0 }, left⟩) ∧
    (∀ c, v.committed = some c →
      (cost c.source ≤ left → Sending.strict ⟨s, left⟩ k = ⟨s.sendShow k c, left - cost c.source⟩) ∧
      (left < cost c.source → Sending.strict ⟨s, left⟩ k = ⟨s, left⟩) ∧
      let raised := if 512 < v.deficit + 32 * v.par.weight then 512 else v.deficit + 32 * v.par.weight
      (cost c.source ≤ raised → cost c.source ≤ left →
        Sending.wrr ⟨s, left⟩ k =
          ⟨{ State.sendShow (s.setService k { v with deficit := raised - cost c.source }) k c with roundRobin := k },
            left - cost c.source⟩) ∧
      (raised < cost c.source ∨ left < cost c.source →
        Sending.wrr ⟨s, left⟩ k = ⟨s.setService k { v with deficit := raised }, left⟩))

/-- The due sequence and the commit step of a service (R105, R111, R113, R114, R162, R163): a live cue stands after every
prepared cue whose time is not later than its own; nothing is done while no cue is due; of several due cues all but the last
are skipped, a live cue's placements GONE; a waiting committed cue is superseded as skipped; and the last due cue is committed
with its band, a live cue's placements COMMITTED, whatever stands behind it and whether or not a package plays. A prepared
cue's rows are cut at the row width, each cut raising
WORD_TRUNCATED, and the play pointer advances past it. -/
def Obligations.CommitStep : Prop :=
  ∀ (s : State) (k : Service),
    let v := s.service k
    let next := s.ref.smc + BitVec.ofNat 32 (s.ref.rate.step s.ref.phase)
    let due : Smc → Prop := fun x => (x - next).toInt ≤ 0
    let skipped : Occurrence := ⟨.cueSkipped, none, some k, none, 0⟩
    let conflict : Occurrence := ⟨.strapConflict, none, some k, none, 0⟩
    let superseded : State → State := fun t => match (t.service k).committed with
      | none => t
      | some _ => (t.setService k { t.service k with committed := none }).raise skipped
    (∀ q r, v.pointer = some q → s.findPackage q.package = some r →
      (s.preparedPart k).length = r.cues.length - (q.pos - 1) ∧
      ∀ i x, (s.preparedPart k)[i]? = some x → r.cues[q.pos - 1 + i]? = some x.cue ∧ x.position = q.pos + i ∧
        x.package = q.package ∧ x.present = s.ref.snap (q.switch + BitVec.ofNat 32 x.cue.offset)) ∧
    s.dueSequence k = mergeDue v.queue (s.preparedPart k) ∧
    (∀ ps, mergeDue [] ps = ps.map .prepared) ∧
    (v.queue = [] → s.dueSequence k = (s.preparedPart k).map .prepared) ∧
    (v.pointer = none → s.dueSequence k = v.queue.map .live) ∧
    (∀ l ls before after, (∀ x ∈ before, (x.present - l.present).toInt ≤ 0) →
      (∀ x, after.head? = some x → 0 < (x.present - l.present).toInt) →
      mergeDue (l :: ls) (before ++ after) = before.map .prepared ++ .live l :: mergeDue ls after) ∧
    (∀ early d rest, s.dueSequence k = early ++ d :: rest → (∀ x ∈ early, due x.present) → due d.present →
      (∀ x, rest.head? = some x → ¬ due x.present) →
      s.commitStep k = (superseded (early.foldl (State.skipDue k) s)).commitDue k d) ∧
    ((∀ d, (s.dueSequence k).head? = some d → ¬ due d.present) → s.commitStep k = s) ∧
    (∀ c, State.skipDue k s (.live c) =
      ((s.setService k { v with queue := v.queue.tail }).markCue k c.body.id .gone).raise skipped) ∧
    (∀ c : CueRecord,
      let place := v.place (if c.body.row2 = [] then 1 else 2)
      s.commitDue k (.live c) = ((s.setService k { v with
        queue := v.queue.tail
        committed := some ⟨.live c, place.1, place.2, false⟩ }).markCue k c.body.id .committed).raiseIf place.2 conflict) ∧
    (∀ x : PreparedDue,
      let w := v.par.rowWidth
      let cuts := (if w < x.cue.row1.length then 1 else 0) + (if w < (x.cue.row2.getD []).length then 1 else 0)
      let place := v.place (if x.cue.row2.isSome then 2 else 1)
      s.commitDue k (.prepared x) = ((s.raiseTimes ⟨.wordTruncated, none, some k, none, 0⟩ cuts).setService k { v with
        pointer := v.pointer.map fun q => { q with pos := q.pos + 1 }
        committed := some ⟨.prepared ⟨x.package, x.position, x.cue.row1.take w, x.cue.row2.map fun y => y.take w,
          x.cue.duration, x.present, x.cue.speaker, decide (0 < cuts)⟩, place.1, place.2, false⟩ }).raiseIf place.2
            conflict) ∧
    (∀ x, State.skipDue k s (.prepared x) =
      (s.setService k { v with pointer := v.pointer.map fun q => { q with pos := q.pos + 1 } }).raise skipped) ∧
    (v.pointer = none → v.queue = [] → s.commitStep k = s) ∧
    (∀ c rest, v.pointer = none → v.queue = c :: rest → ¬ due c.present → s.commitStep k = s) ∧
    (∀ early c rest, v.pointer = none → v.queue = early ++ c :: rest → (∀ x ∈ early, due x.present) → due c.present →
      (∀ x, rest.head? = some x → ¬ due x.present) →
      let t := superseded (early.foldl (fun u x => ((u.setService k { u.service k with
        queue := (u.service k).queue.tail }).markCue k x.body.id .gone).raise skipped) s)
      let place := v.place (if c.body.row2 = [] then 1 else 2)
      s.commitStep k = ((t.setService k { t.service k with
        queue := rest
        committed := some ⟨.live c, place.1, place.2, false⟩ }).markCue k c.body.id .committed).raiseIf place.2
          conflict) ∧
    (∀ q r c, v.pointer = some q → v.queue = [] → s.findPackage q.package = some r → r.cues.drop (q.pos - 1) = [c] →
      let time := s.ref.snap (q.switch + BitVec.ofNat 32 c.offset)
      let w := v.par.rowWidth
      let row2 := c.row2.map fun x => x.take w
      let cuts := (if w < c.row1.length then 1 else 0) + (if w < (c.row2.getD []).length then 1 else 0)
      let place := v.place (if c.row2.isSome then 2 else 1)
      let t := superseded s
      (¬ due time → s.commitStep k = s) ∧
      (due time → s.commitStep k = ((t.raiseTimes ⟨.wordTruncated, none, some k, none, 0⟩ cuts).setService k { t.service k with
        pointer := some { q with pos := q.pos + 1 }
        committed := some ⟨.prepared ⟨q.package, q.pos, c.row1.take w, row2, c.duration, time, c.speaker,
          decide (0 < cuts)⟩, place.1, place.2, false⟩ }).raiseIf place.2 conflict))

/-- The choice of a band, the cover check and a strap change (R129, R130, R133 to R136): base band, else top band, else the
base band in conflict; a SHOWING cue whose held band meets the row map is placed again, which may ask for a MOVE and raises
STRAP_CONFLICT only as the mark is set from clear; a strap that occupies a slot marks a committed cue and makes the check,
and one that empties a slot changes the slot alone. -/
def Obligations.BandsAndStraps : Prop :=
  ∀ (s : State) (k : Service),
    let v := s.service k
    let meets : Band → Prop := fun b =>
      ∃ i x, v.rowMap.get i = some x ∧ x.r1 ≤ b.top + b.height - 1 ∧ b.top ≤ x.r2
    (∀ h,
      let base : Band := ⟨v.par.baseRow + 1 - h, h⟩
      let top : Band := ⟨v.par.topRow, h⟩
      (¬ meets base → v.place h = (base, false)) ∧
      (meets base → ¬ meets top → v.place h = (top, false)) ∧
      (meets base → meets top → v.place h = (base, true))) ∧
    (v.display = .blank → s.coverCheck k = s) ∧
    (∀ r, v.display = .showing r →
      let held := match v.control with | .move b => b | _ => r.band
      let chosen := v.place r.band.height
      (¬ meets held → s.coverCheck k = s) ∧
      (meets held →
        s.coverCheck k = (s.setService k { v with
          display := .showing { r with conflict := chosen.2 }
          control := if chosen.1 = held ∨ v.control = .clear then v.control else .move chosen.1 }).raiseIf
            (chosen.2 && !r.conflict) ⟨.strapConflict, none, some k, none, 0⟩)) ∧
    (∀ slot, s.applyStrap k slot none = s.setService k { v with rowMap := v.rowMap.set slot none }) ∧
    (∀ slot rows, s.applyStrap k slot (some rows) = (s.setService k { v with
      rowMap := v.rowMap.set slot (some rows)
      committed := v.committed.map fun c => { c with mapChanged := true } }).coverCheck k)

/-! ### Automation -/

/-- An EVENT at its arrival (R139 to R141, R132, R14): discarded in CONFIG; refused RANGE when it cannot be read, names a
disabled service or does not convert; refused FULL at 32 entries; otherwise it joins the list and is answered with its
effect SMC: CLAMPED if repaired, MISSING for an unknown package, else ACCEPTED. IMMEDIATE_NO_ANCHOR is raised whether it is
then accepted or refused FULL. A payload above 96 bytes is a failing frame (log 29).
How many bytes each kind's payload must hold is the model's reading (log 16). -/
def Obligations.EventAnswered : Prop :=
  (∀ (s : State) (payload : List Byte), s.mode = .config ∨ 96 < payload.length →
    exec (.event payload) s = .next s) ∧
  (∀ (s : State) (payload : List Byte), s.mode = .run → payload.length < 2 →
    exec (.event payload) s = .next (s.sendAnswer ⟨0, .range⟩)) ∧
  (∀ (s : State) (t1 t0 : Byte) (rest : List Byte), s.mode = .run → rest.length ≤ 94 →
    let payload := t1 :: t0 :: rest
    let tag : BitVec 16 := t1 ++ t0
    let answered : State → AnswerResult → Prop := fun t r => exec (.event payload) s = .next (t.sendAnswer ⟨tag, r⟩)
    (readEvent payload = none → answered s .range) ∧
    (∀ f, readEvent payload = some f →
      ((s.service f.service).par.enabled = false → answered s .range) ∧
      ((s.service f.service).par.enabled = true →
        (s.ref.convert f.label = .range → answered s .range) ∧
        ∀ effect immediate noAnchor,
          (s.ref.convert f.label = .converted effect ∧ immediate = false ∧ noAnchor = false) ∨
            (s.ref.convert f.label = .immediate noAnchor ∧ effect = s.ref.smc ∧ immediate = true) →
          let t := s.raiseIf noAnchor ⟨.immediateNoAnchor, none, none, none, 0⟩
          let joined : State := { t with events := insertEvent ⟨effect, f.service, f.body, false⟩ s.events }
          (32 ≤ s.events.length → answered t .full) ∧
          (s.events.length < 32 →
            (f.changed = true → answered joined (.clamped effect immediate)) ∧
            (f.changed = false →
              (∀ id, f.body = .segment (.package id) → s.findPackage id = none →
                answered joined (.missing effect immediate)) ∧
              ((∀ id, f.body = .segment (.package id) → s.findPackage id ≠ none) →
                answered joined (.accepted effect immediate))))))) ∧
  (∀ (t1 t0 k h m sec fr flags : Byte) (v : Service),
    let head : Byte → List Byte → List Byte := fun kind body =>
      t1 :: t0 :: kind :: BitVec.ofNat 8 v.val :: h :: m :: sec :: fr :: flags :: body
    let read : EventBody → Bool → Option EventFields := fun b changed =>
      some ⟨v, ⟨h.toNat, m.toNat, sec.toNat, fr.toNat, flags.getLsbD 0⟩, b, changed⟩
    (∀ hi lo, readEvent (head 1 [1, hi, lo]) = read (.segment .live) false ∧
      readEvent (head 1 [3, hi, lo]) = read (.segment .brk) false ∧
      ((hi ++ lo : BitVec 16) = 0 → readEvent (head 1 [2, hi, lo]) = none) ∧
      ((hi ++ lo : BitVec 16) ≠ 0 → readEvent (head 1 [2, hi, lo]) = read (.segment (.package (hi ++ lo))) false) ∧
      (readEvent (head 4 [hi, lo]) =
        let d := (hi ++ lo : BitVec 16).toNat
        read (.delay (if d ≤ 12000 then d else 12000)) (decide (12000 < d)))) ∧
    (∀ g : Group, readEvent (head 3 [BitVec.ofNat 8 g.val]) = read (.route (some g)) false) ∧
    readEvent (head 3 [255]) = read (.route none) false ∧
    (∀ (slot : Fin 4) (r1 r2 : Byte),
      let a := Max.max 1 (min r1.toNat 15)
      let b := Max.max 1 (min r2.toNat 15)
      let rows : Strap := ⟨min a b, Max.max a b⟩
      readEvent (head 2 [BitVec.ofNat 8 slot.val, 0, r1, r2]) = read (.strap slot none) false ∧
      readEvent (head 2 [BitVec.ofNat 8 slot.val, 1, r1, r2]) =
        read (.strap slot (some rows)) (decide (rows ≠ ⟨r1.toNat, r2.toNat⟩))) ∧
    (k ∉ ([1, 2, 3, 4] : List Byte) → ∀ body, readEvent (head k body) = none) ∧
    (∀ x hi lo, x ∉ ([1, 2, 3] : List Byte) → readEvent (head 1 [x, hi, lo]) = none) ∧
    (∀ slot st r1 r2 : Byte, 4 ≤ slot.toNat ∨ 2 ≤ st.toNat → readEvent (head 2 [slot, st, r1, r2]) = none) ∧
    (∀ g : Byte, 4 ≤ g.toNat → g ≠ 255 → readEvent (head 3 [g]) = none) ∧
    (∀ body : List Byte, (body.length < 3 → readEvent (head 1 body) = none) ∧
      (body.length < 4 → readEvent (head 2 body) = none) ∧ (body.length < 1 → readEvent (head 3 body) = none) ∧
      (body.length < 2 → readEvent (head 4 body) = none)) ∧
    (∀ (svc : Byte) (body : List Byte), 4 ≤ svc.toNat →
      readEvent (t1 :: t0 :: k :: svc :: h :: m :: sec :: fr :: flags :: body) = none)) ∧
  (∀ payload : List Byte, payload.length < 9 → readEvent payload = none)

/-- The lists stay in order of time, equal times in order of arrival (R141, R146): an entry is placed after every entry
whose time is not later than its own, and before the first that is later; so the pending list and a switch list that are in
order stay in order, unless the entry lies exactly 2^31 ms from one in the list, where the comparison orders neither before
the other (log 32). -/
def Obligations.ListsKeepOrder : Prop :=
  (∀ (e : PendingEvent) (l : List PendingEvent),
    (∃ before after, l = before ++ after ∧ insertEvent e l = before ++ e :: after ∧
      (∀ x ∈ before, (x.effect - e.effect).toInt ≤ 0) ∧
      (∀ x, after.head? = some x → 0 < (x.effect - e.effect).toInt)) ∧
    (l.IsChain (fun a b => 0 ≤ (b.effect - a.effect).toInt) →
      (insertEvent e l).IsChain (fun a b => 0 ≤ (b.effect - a.effect).toInt) ∨
        ∃ a ∈ l, (e.effect - a.effect) = 2147483648#32)) ∧
  (∀ (e : SwitchEntry) (l : List SwitchEntry),
    ∃ before after, l = before ++ after ∧ insertSwitch e l = before ++ e :: after ∧
      (∀ x ∈ before, (x.switch - e.switch).toInt ≤ 0) ∧
      (∀ x, after.head? = some x → 0 < (x.switch - e.switch).toInt) ∧
      (l.IsChain (fun a b => 0 ≤ (b.switch - a.switch).toInt) →
        (insertSwitch e l).IsChain (fun a b => 0 ≤ (b.switch - a.switch).toInt) ∨
          ∃ a ∈ l, (e.switch - a.switch) = 2147483648#32))

/-- The effect times (R142 to R146, R54, R134): every entry that has seen a boundary and whose effect SMC is reached leaves
the list and is applied, one after another from the head; a ROUTE that changes the live route closes the open cue; a DELAY
sets D; a SEGMENT moves the segment state and, as a STRAP does, puts an entry at E + D in the switch list; and a list of 4
applies the earliest of the five at once, with EARLY_SWITCH.
The mark that an entry has seen a boundary is the model's own (log 6), and that EARLY_SWITCH is raised before the entry is
applied is its reading (log 27). -/
def Obligations.EffectsApplied : Prop :=
  (∀ s : State,
    let expires : PendingEvent → Bool := fun e => e.armed && decide (0 ≤ (s.ref.smc - e.effect).toInt)
    exec .effectTimeExpiry s = .next ((s.events.filter expires).foldl State.applyEvent
      { s with events := s.events.filter fun e => !expires e })) ∧
  (∀ (s : State) (k : Service) (e : Smc) (armed : Bool),
    let v := s.service k
    let at_ := e + BitVec.ofNat 32 v.par.delay
    (∀ g, (v.liveRoute = g → s.applyEvent ⟨e, k, .route g, armed⟩ = s) ∧
      (v.liveRoute ≠ g →
        s.applyEvent ⟨e, k, .route g, armed⟩ =
          (s.closeCue k).setService k { (s.closeCue k).service k with liveRoute := g })) ∧
    (∀ d, s.applyEvent ⟨e, k, .delay d, armed⟩ = s.setService k { v with par := { v.par with delay := d } }) ∧
    (∀ seg,
      let before := match v.segCurrent with | .live => SegKind.live | .package _ => .package | .brk => .brk
      let body := match seg with | .live => SwitchBody.live | .package id => .package id e | .brk => .brk
      s.applyEvent ⟨e, k, .segment seg, armed⟩ =
        (s.setService k { v with
          segPrevious := before
          segCurrent := seg
          lastChange := some e }).joinSwitch k ⟨at_, body, false⟩) ∧
    (∀ slot rows, s.applyEvent ⟨e, k, .strap slot rows, armed⟩ =
      s.joinSwitch k ⟨at_, .strap slot rows, false⟩)) ∧
  (∀ (s : State) (k : Service) (e : SwitchEntry),
    let v := s.service k
    (v.switches.length < 4 → s.joinSwitch k e = s.setService k { v with switches := insertSwitch e v.switches }) ∧
    (∀ x rest, 4 ≤ v.switches.length → insertSwitch e v.switches = x :: rest →
      s.joinSwitch k e = State.applySwitch k ((s.setService k { v with switches := rest }).raise
        ⟨.earlySwitch, none, some k, none, 0⟩) x))

/-- The presentation switches (R106, R126, R147 to R152): every entry that has seen a boundary and whose switch SMC is
reached leaves its list and is applied in order. LIVE ends the play, clears a prepared cue on screen and sets B_L; BREAK and
PACKAGE cut the queued and committed live cues from the switch on; BREAK asks for CLEAR; PACKAGE starts the play at the
first prepared cue, or falls back to LIVE where the package is not READY.
The mark that an entry has seen a boundary is the model's own (log 6); that a prepared cue on screen is cleared at a LIVE switch
whether or not its play still runs is its reading (log 24). -/
def Obligations.SwitchesApplied : Prop :=
  (∀ (s : State) (k : Service),
    let expires : SwitchEntry → Bool := fun e => e.armed && decide (0 ≤ (s.ref.smc - e.switch).toInt)
    exec (.switchTimeExpiry k) s = .next (((s.service k).switches.filter expires).foldl (State.applySwitch k)
      (s.setService k { s.service k with switches := (s.service k).switches.filter fun e => !expires e }))) ∧
  (∀ (s : State) (k : Service),
    ((s.service k).pointer = none → s.endPlay k = s) ∧
    (∀ q, (s.service k).pointer = some q →
      (∀ c x, (s.service k).committed = some c → c.source = .prepared x → x.package = q.package →
        s.endPlay k = (s.setService k { s.service k with pointer := none, committed := none }).raise
          ⟨.cueCut, none, some k, none, 0⟩) ∧
      ((∀ c x, (s.service k).committed = some c → c.source = .prepared x → x.package ≠ q.package) →
        s.endPlay k = s.setService k { s.service k with pointer := none }))) ∧
  (∀ (s : State) (k : Service) (x : Smc) (armed : Bool),
    let t := s.endPlay k
    let v := t.service k
    let cutEvent : Occurrence := ⟨.cueCut, none, some k, none, 0⟩
    let prepared : Bool := match v.display with | .blank => false | .showing r => r.source.isSome
    let cleared : Control := if prepared then .clear else v.control
    let cutFrom : State → State := fun t =>
      let v := t.service k
      let u := (v.queue.filter fun c => decide (0 ≤ (c.present - x).toInt)).foldl
        (fun u c => (u.markCue k c.body.id .gone).raise cutEvent)
        (t.setService k { v with queue := v.queue.filter fun c => decide ((c.present - x).toInt < 0) })
      match v.committed with
      | some ⟨.live c, _, _, _⟩ =>
        if 0 ≤ (c.present - x).toInt then (u.setService k { u.service k with committed := none }).raise cutEvent else u
      | _ => u
    State.applySwitch k s ⟨x, .live, armed⟩ = t.setService k { v with
      control := cleared
      kindInForce := .live
      lastSwitch := some ⟨.live, x, false⟩
      liveStart := some x } ∧
    (let u := cutFrom (t.setService k { v with kindInForce := .brk, lastSwitch := some ⟨.brk, x, false⟩ })
     State.applySwitch k s ⟨x, .brk, armed⟩ = u.setService k { u.service k with
      control := if v.display = .blank then v.control else .clear }) ∧
    (∀ id e,
      (∀ r, s.findPackage id = some r → r.state = .ready →
        State.applySwitch k s ⟨x, .package id e, armed⟩ = cutFrom (t.setService k { v with
          pointer := some ⟨id, 1, x⟩
          kindInForce := .package
          lastSwitch := some ⟨.package, x, false⟩ })) ∧
      ((∀ r, s.findPackage id = some r → r.state = .loading) →
        State.applySwitch k s ⟨x, .package id e, armed⟩ = t.setService k { v with
          control := cleared
          kindInForce := .live
          lastSwitch := some ⟨.package, x, true⟩
          liveStart := some x
          segCurrent := if v.lastChange = some e ∧ ∃ q, v.segCurrent = .package q then .live else v.segCurrent })) ∧
    (∀ slot rows, State.applySwitch k s ⟨x, .strap slot rows, armed⟩ = s.applyStrap k slot rows))

/-! ### Packages -/

/-- The takes of package records (R154 to R161, R164): each leaves the head of an unpaused queue. An open first ends the
port's own load, is BUSY against another port's load, replaces a READY package, takes the lowest EMPTY slot, or fails FULL
(received 0, log 22); an open of a playing package waits. A cue fails its load with COUNT, ORDER or FULL, or joins it. A
close makes the package READY when the counts agree. A drop frees the package and ends its plays. A failed load is discarded
whole, with PACKAGE_FAILED and its answer, which carries the id of that load (log 34).
That a take is a command of its own, and that it sends its RESUME before the record has its effects, are the model's (log 9,
log 27). -/
def Obligations.PackageRecords : Prop :=
  (∀ (s : State) (p : Port) (rest : List IntakeRecord), s.mode = .run → (s.port p).link ≠ .taking →
    let queue := (s.port p).queue
    let t := s.removeHead p
    (∀ id n, queue = .pkgOpen id n :: rest →
      ((∃ k q, (s.service k).pointer = some q ∧ q.package = id) → exec (.pkgOpenTake p) s = .next s) ∧
      ((∀ k q, (s.service k).pointer = some q → q.package ≠ id) →
        ((s.port p).load = .idle → exec (.pkgOpenTake p) s = .next (t.openPackage p id n)) ∧
        (∀ q, (s.port p).load = .loading q →
          exec (.pkgOpenTake p) s = .next ((t.failLoad p q .count .idle).openPackage p id n)) ∧
        (∀ q, (s.port p).load = .ignoring q →
          exec (.pkgOpenTake p) s = .next ((t.setPort p { t.port p with load := .idle }).openPackage p id n)))) ∧
    (∀ c, queue = .pkgCue c :: rest → exec (.pkgCueTake p) s = .next (t.loadCue p c)) ∧
    (∀ id, queue = .pkgClose id :: rest → exec (.pkgCloseTake p) s = .next (t.closePackage p id)) ∧
    (∀ id, queue = .pkgDrop id :: rest → exec (.pkgDropTake p) s = .next (t.dropPackage p id))) ∧
  (∀ (s : State) (p : Port) (id : PackageId),
    let table : Option PackageRecord → List (Option PackageRecord) := fun r =>
      s.packages.map fun o => if o.map PackageRecord.id = some id then r else o
    let context : LoadContext → State → State := fun x t => t.setPort p { t.port p with load := x }
    let answer : PackageResult → State → State := fun r t => t.sendPort p (.packageAnswer id r)
    let alert : State → State := fun t => t.setAlert .packageFailed (some p)
    let failed : LoadFailure → LoadContext → Nat → State := fun why next n =>
      answer (.failed why n) (alert (context next { s with packages := table none }))
    (∀ r why next, s.findPackage id = some r → s.failLoad p id why next = failed why next r.cues.length) ∧
    (∀ n,
      let opened : PackageRecord := ⟨id, .loading, n, [], some p⟩
      (∀ r, s.findPackage id = some r → r.state = .loading →
        s.openPackage p id n = answer .busy (alert (context (.ignoring id) s))) ∧
      (∀ r, s.findPackage id = some r → r.state = .ready →
        s.openPackage p id n = context (.loading id) { s with packages := table (some opened) }) ∧
      (s.findPackage id = none → ∀ before after, s.packages = before ++ none :: after → none ∉ before →
        s.openPackage p id n = context (.loading id) { s with packages := before ++ some opened :: after }) ∧
      (s.findPackage id = none → none ∉ s.packages →
        s.openPackage p id n = answer (.failed .full 0) (alert (context (.ignoring id) s)))) ∧
    (∀ c,
      ((s.port p).load = .idle → s.loadCue p c = s.raise ⟨.linkErrors, some p, none, none, 0⟩) ∧
      ((s.port p).load = .ignoring id → s.loadCue p c = s) ∧
      (∀ r, (s.port p).load = .loading id → s.findPackage id = some r →
        let full := s.poolCapacity ≤ poolUse s.packages
        let late := ∃ l, r.cues.getLast? = some l ∧ c.offset ≤ l.offset
        (r.declared ≤ r.cues.length → s.loadCue p c = failed .count (.ignoring id) r.cues.length) ∧
        (r.cues.length < r.declared → late → s.loadCue p c = failed .order (.ignoring id) r.cues.length) ∧
        (r.cues.length < r.declared → ¬ late → full → s.loadCue p c = failed .full (.ignoring id) r.cues.length) ∧
        (r.cues.length < r.declared → ¬ late → ¬ full →
          s.loadCue p c = { s with packages := table (some { r with cues := r.cues ++ [c] }) }))) ∧
    (∀ r, (s.port p).load = .loading id → s.findPackage id = some r →
      (r.cues.length = r.declared → s.closePackage p id = answer (.loaded r.cues.length) (context .idle
        { s with packages := table (some { r with state := .ready, loadingPort := none }) })) ∧
      (r.cues.length ≠ r.declared → s.closePackage p id = failed .count .idle r.cues.length)) ∧
    ((s.port p).load = .ignoring id → s.closePackage p id = context .idle s) ∧
    ((s.port p).load ≠ .loading id → (s.port p).load ≠ .ignoring id → s.closePackage p id = answer .unknown s) ∧
    (let forgotten : State → State := fun t => if (s.port p).load = .ignoring id then context .idle t else t
     (s.findPackage id = none → s.dropPackage p id = answer .unknown (forgotten s)) ∧
     (∀ r, s.findPackage id = some r → r.state = .loading →
        (r.loadingPort = some p → s.dropPackage p id = answer .dropped (context .idle { s with packages := table none })) ∧
        (r.loadingPort ≠ some p → s.dropPackage p id = answer .busy s)) ∧
     (∀ r, s.findPackage id = some r → r.state = .ready →
        let playing := allServices.filter fun k => decide (∃ q, (s.service k).pointer = some q ∧ q.package = id)
        let u := playing.foldl State.endPlay s
        s.dropPackage p id = answer .dropped (forgotten { u with packages := table none }) ∧
          SameBut [.services, .counters, .alerts] s u ∧
          ∀ k, (s.plays k id = true → (u.service k).pointer = none ∧
              ∀ c, (u.service k).committed = some c → c.isOf id = false) ∧
            (s.plays k id = false → u.service k = s.service k))))

/-! ### Counters and alerts -/

/-- An event reaches the counters that select it (R167, R168, R170), and a boundary samples the levels (R169). The counter
takes an occurrence when its service, its port and its cause lie in the masks; a count adds 1, a lateness the figure or, at
a threshold, 1; an addition stops at 4 294 967 295 with the saturated flag, which sets COUNTER_SATURATED with the counter's
number as it goes from clear to set; and nothing else changes. Setting an alert sets its flag and adds the source to its
source set, if there is one; its enable and every other alert stay (R172). An occurrence and a sample set COUNTER_SATURATED
with the numbers of exactly those counters whose saturated flag they take from clear to set, and touch no other alert (R170). -/
def Obligations.OccurrenceReachesCounters : Prop :=
  (∀ (s : State) (a : Alert) (source : Option (Fin 8)), SameBut [.alerts] s (s.setAlert a source) ∧
    let place : Fin 8 := match a with
      | .refLost => 0 | .refLocked => 1 | .linkLost => 2 | .intakeOverflow => 3 | .cueOverflow => 4
      | .packageFailed => 5 | .outputStalled => 6 | .counterSaturated => 7
    let x := s.alerts.get place
    let y := (s.setAlert a source).alerts.get place
    y.flag = true ∧ y.enable = x.enable ∧
    (∀ j, y.sources.get j = true ↔ x.sources.get j = true ∨ source = some j) ∧
    ∀ i, i ≠ place → (s.setAlert a source).alerts.get i = s.alerts.get i) ∧
  (∀ (s : State) (o : Occurrence), SameBut [.counters, .alerts] s (s.raise o) ∧
    ∀ i,
      let c := s.counters.get i
      let takes := c.event = some o.event ∧ (∀ k, o.service = some k → c.services.get k = true) ∧
        (∀ p, o.port = some p → c.ports.get p = true) ∧ (∀ x, o.cause = some x → hasCause c.causes x = true)
      let figure := if c.threshold = 0 then o.figure else if c.threshold ≤ o.figure then 1 else 0
      (¬ takes → (s.raise o).counters.get i = c) ∧
      (takes → (s.raise o).counters.get i = c.add (if o.event = .latenessMs then figure else 1))) ∧
  (∀ (c : Counter) (n : Nat),
    (c.saturated = true ∨ n = 0 → c.add n = c) ∧
    (c.saturated = false → n ≠ 0 →
      (c.value + n < 4294967295 → c.add n = { c with value := c.value + n }) ∧
      (4294967295 ≤ c.value + n → c.add n = { c with value := 4294967295, saturated := true }))) ∧
  (∀ (s : State) (i : Fin 8) (n : Nat),
    let c := s.counters.get i
    let t := { s with counters := s.counters.set i (c.add n) }
    (c.saturated = false → (c.add n).saturated = true → s.addTo i n = State.setAlert t .counterSaturated (some i)) ∧
    (c.saturated = true ∨ (c.add n).saturated = false → s.addTo i n = t)) ∧
  (∀ (s : State), SameBut [.counters, .alerts] s s.sampleLevels ∧
    ∀ i,
      let c := s.counters.get i
      let services := allServices.filter c.services.get
      let levels : List Nat := match c.event with
        | some .framesCatchup => services.map fun k =>
          if (s.service k).par.enabled = true ∧ (s.service k).phase = .catchup then 1 else 0
        | some .cueQueueLevel => services.map fun k =>
          if (s.service k).par.enabled = true ∧ s.mode = .run then (s.service k).queue.length else 0
        | some .intakeLevel => (allPorts.filter c.ports.get).map fun p =>
          if (s.port p).par.kind ≠ .unused ∧ s.mode = .run then (s.port p).queue.length else 0
        | _ => []
      s.sampleLevels.counters.get i = levels.foldl
        (fun d level => d.add (if c.threshold = 0 then level else if c.threshold ≤ level then 1 else 0)) c) ∧
  (let saturates : State → State → Prop := fun s t =>
     let now : Fin 8 → Prop := fun i => (s.counters.get i).saturated = false ∧ (t.counters.get i).saturated = true
     let x := s.alerts.get 7
     let y := t.alerts.get 7
     (∀ i, i ≠ 7 → t.alerts.get i = s.alerts.get i) ∧ y.enable = x.enable ∧
     (y.flag = true ↔ x.flag = true ∨ ∃ i, now i) ∧
     ∀ j, y.sources.get j = true ↔ x.sources.get j = true ∨ now j
   ∀ (s : State), saturates s s.sampleLevels ∧ ∀ o, saturates s (s.raise o))

/-- The commands on counters and alerts, carried by a transaction (R171 to R174, R176): what each replaces, clears and
returns; a selector outside the table, a mask or a threshold outside its range and a counter number above 7 are refused RANGE.
The attention line is asserted exactly while an enabled flag is set.
The event and the mask fields are typed, since the spec gives them no encoding (log 25). -/
def Obligations.CounterAndAlertCommands : Prop :=
  (∀ (s : State), s.sup.transaction = .carrying →
    let reply : Instr → Byte → Code → ResponseFields → State → Prop := fun c type code fields t =>
      exec c s = .next { t with
        sup := { t.sup with executing := some ⟨type, code, false, s.ref.smc, fields⟩, transaction := .none } }
    (∀ n f, 8 ≤ n → reply (.counterSelect n f) 0x86 .range .none s ∧ reply (.counterClear n) 0x87 .range .none s) ∧
    (∀ (i : Fin 8) (f : SelectionFields),
      let select : Option EventKind → CauseSet → Per4 Bool → Per8 Bool → State := fun e x y z => { s with
        counters := s.counters.set i ⟨e, x, y, z, f.threshold, 0, false⟩ }
      (f.event = .outsideTable ∨ f.causes = .outsideRange ∨ f.services = .outsideRange ∨ f.ports = .outsideRange ∨
          4294967295 < f.threshold → reply (.counterSelect i.val f) 0x86 .range .none s) ∧
      (∀ x y z, f.causes = .members x → f.services = .members y → f.ports = .members z → f.threshold ≤ 4294967295 →
        (f.event = .noEvent → reply (.counterSelect i.val f) 0x86 .ok .none (select none x y z)) ∧
        (∀ e, f.event = .event e → reply (.counterSelect i.val f) 0x86 .ok .none (select (some e) x y z))) ∧
      reply (.counterClear i.val) 0x87 .ok .none
        { s with counters := s.counters.set i { s.counters.get i with value := 0, saturated := false } }) ∧
    (∀ named : Per8 Bool, ∃ cs : Per8 Counter,
      reply (.counterRead named) 0x88 .ok (.counters s.counters) { s with counters := cs } ∧
      ∀ i, cs.get i = if named.get i = true then { s.counters.get i with value := 0, saturated := false }
        else s.counters.get i) ∧
    reply .alertStatus 0x89 .ok (.alerts s.alerts) s ∧
    (∀ marks : Per8 Bool, ∃ cleared enabled : Per8 AlertState,
      reply (.alertClear marks) 0x8A .ok .none { s with alerts := cleared } ∧
      reply (.alertEnable marks) 0x8B .ok .none { s with alerts := enabled } ∧
      ∀ i, cleared.get i = (if marks.get i = true then ⟨false, (s.alerts.get i).enable, Per8.all false⟩
          else s.alerts.get i) ∧
        enabled.get i = { s.alerts.get i with enable := marks.get i })) ∧
  (∀ s : State, s.attention = true ↔ ∃ i, (s.alerts.get i).flag = true ∧ (s.alerts.get i).enable = true)

/-! ### The supervisory link -/

/-- Transactions and responses (R175, R176): a transaction that begins reads the buffer out, or zero bytes with overrun
while a command executes; a finished command fills the buffer and asserts response-ready; a command in a discarding
transaction is dropped; one with no transaction under way begins its own (log 10); CHECK and UNKNOWN are answered with the
frame's type, which is a free value where the frame was cut off before it (log 11).
A RESPONSE_READY commanded while nothing executes does nothing, and neither does a COMMAND_CHECK_FAILED whose bytes are no
failing frame (log 4). The operands of the commands listed, a parameter's
place and value, a selection and a moment, are the model's (log 3, log 15, log 25). The types 0x80 to 0x92 name the commands
of R177 in their order, and no other type names one (R184). -/
def Obligations.Transactions : Prop :=
  (([.parameterRead, .parameterWrite, .start, .stop, .flushPort, .flushService, .counterSelect, .counterClear, .counterRead,
      .alertStatus, .alertClear, .alertEnable, .referenceStatus, .portStatus, .groupStatus, .serviceStatus, .layoutStatus,
      .automationStatus, .packageStatus] : List SupervisoryCommand).map (fun c => c.type.toNat) =
        (List.range 19).map (fun n => 0x80 + n) ∧
    (∀ c : SupervisoryCommand, supervisoryCommand c.type = some c) ∧
    ∀ b : Byte, supervisoryCommand b = none ↔ b.toNat < 0x80 ∨ 0x92 < b.toNat) ∧
  (∀ s : State,
    (∀ r, s.sup.executing = some r →
      exec .transactionStart s = .next { s with
        sup := { s.sup with overrun := true, transaction := .discarding }
        sent := { s.sent with spi := s.sent.spi ++ [none] } } ∧
      exec .responseReady s = .next { s with
        sup := { s.sup with buffer := some { r with overrun := s.sup.overrun }, ready := true, executing := none } }) ∧
    (s.sup.executing = none →
      exec .transactionStart s = .next { s with
        sup := { s.sup with
          buffer := none
          ready := false
          overrun := if s.sup.buffer = none then s.sup.overrun else false
          transaction := .carrying }
        sent := { s.sent with spi := s.sent.spi ++ [s.sup.buffer] } } ∧
      exec .responseReady s = .next s) ∧
    exec .transactionStart s = .next s.beginTransaction ∧
    (s.sup.transaction = .carrying →
      (∀ t rest raw, readFrame 255 raw = .failed (some t) rest →
        exec (.commandCheckFailed raw) s = .next { s with sup := { s.sup with
          executing := some ⟨t, .check, false, s.ref.smc, .none⟩, transaction := .none } }) ∧
      (∀ rest raw, readFrame 255 raw = .failed none rest →
        exec (.commandCheckFailed raw) s = .next { s with
          freeIndex := s.freeIndex + 1
          sup := { s.sup with
            executing := some ⟨Config.freeByte s.freeIndex, .check, false, s.ref.smc, .none⟩
            transaction := .none } }) ∧
      (∀ t : Byte, t.toNat < 0x80 ∨ 0x92 < t.toNat →
        exec (.unknownCommandType t) s = .next { s with sup := { s.sup with
          executing := some ⟨t, .unknown, false, s.ref.smc, .none⟩, transaction := .none } }))) ∧
  (∀ raw, readFrame 255 raw = .noMarker → ∀ s, exec (.commandCheckFailed raw) s = .next s) ∧
  (∀ (s : State) (m : Moment) (a b d : Nat) (v : ParamValue) (f : SelectionFields) (marks : Per8 Bool) (t : Byte),
    t.toNat < 0x80 ∨ 0x92 < t.toNat →
    ∀ c ∈ ([.unknownCommandType t, .parameterRead a b d, .parameterWrite m a b d v, .frameRateWrite m v,
        .configuredRouteWrite a v, .flowControlWrite a v, .schedulingModeWrite v, .poolRegionWrite a v, .start, .stop,
        .flushPort a, .flushService a, .counterSelect a f, .counterClear a, .counterRead marks, .alertStatus,
        .alertClear marks, .alertEnable marks, .referenceStatus, .portStatus a, .groupStatus a, .serviceStatus a,
        .layoutStatus, .automationStatus, .packageStatus] : List Instr),
      (s.sup.transaction = .discarding →
        exec c s = .next { s with sup := { s.sup with transaction := .none } }) ∧
      (s.sup.transaction = .none → exec c s = exec c s.beginTransaction)) ∧
  (∀ (s : State) raw,
    (∀ t body rest, readFrame 255 raw = .frame t body rest → exec (.commandCheckFailed raw) s = .next s) ∧
    (∀ type rest, readFrame 255 raw = .failed type rest →
      (s.sup.transaction = .discarding → exec (.commandCheckFailed raw) s = .next { s with
        freeIndex := if type = none then s.freeIndex + 1 else s.freeIndex
        sup := { s.sup with transaction := .none } }) ∧
      (s.sup.transaction = .none → exec (.commandCheckFailed raw) s = exec (.commandCheckFailed raw) s.beginTransaction)))

/-- The reads and status commands, carried by a transaction (R177; R11, R37, R98, R141, R154, R179): each returns its
record as it stands, with OK and the SMC, and changes no state; a number outside its range is refused RANGE; a label
reported for the anchor names its frame-of-day.
That SERVICE STATUS also reports the mode, the budget and the round-robin position is the model's choice (log 19).
Each place of the table of R178 names its parameter, with the index of R179; a place outside it is UNKNOWN and an index
outside its range RANGE. The form of names and values is the model's (log 15). -/
def Obligations.StatusReads : Prop :=
  ((∀ n, resolve 1 1 n = .ok .frameRate ∧ resolve 2 1 n = .ok .trim ∧ resolve 3 1 n = .ok .silenceTimeout ∧
      resolve 20 1 n = .ok .schedMode ∧ resolve 21 1 n = .ok .budget) ∧
    (∀ p : Port, resolve 4 1 p.val = .ok (.portKind p) ∧ resolve 5 1 p.val = .ok (.portGroup p) ∧
      resolve 6 1 p.val = .ok (.portNumber p .lag) ∧ resolve 7 1 p.val = .ok (.portNumber p .holdTime) ∧
      resolve 8 1 p.val = .ok (.flowControl p) ∧ resolve 9 1 p.val = .ok (.portNumber p .hw) ∧
      resolve 9 2 p.val = .ok (.portNumber p .lw) ∧ resolve 22 1 p.val = .ok (.regionFirst (.port p)) ∧
      resolve 22 2 p.val = .ok (.regionCount (.port p))) ∧
    (∀ g : Group, resolve 10 1 g.val = .ok (.yieldTimeout g) ∧ resolve 11 1 g.val = .ok (.failover g)) ∧
    (∀ k : Service, resolve 12 1 k.val = .ok (.serviceEnable k) ∧ resolve 13 1 k.val = .ok (.route k) ∧
      resolve 14 1 k.val = .ok (.serviceNumber k .rowWidth) ∧ resolve 15 1 k.val = .ok (.serviceNumber k .rowsPerCue) ∧
      resolve 16 1 k.val = .ok (.serviceNumber k .idleClose) ∧ resolve 17 1 k.val = .ok (.serviceNumber k .delay) ∧
      resolve 17 2 k.val = .ok (.serviceNumber k .lead) ∧ resolve 17 3 k.val = .ok (.serviceNumber k .closeMargin) ∧
      resolve 17 4 k.val = .ok (.serviceNumber k .minReading) ∧ resolve 17 5 k.val = .ok (.serviceNumber k .catchupFloor) ∧
      resolve 17 6 k.val = .ok (.serviceNumber k .readingRate) ∧ resolve 17 7 k.val = .ok (.serviceNumber k .gap) ∧
      resolve 17 8 k.val = .ok (.serviceNumber k .lateLimit) ∧ resolve 17 9 k.val = .ok (.serviceNumber k .maxHold) ∧
      resolve 18 1 k.val = .ok (.serviceNumber k .weight) ∧ resolve 19 1 k.val = .ok (.serviceNumber k .baseRow) ∧
      resolve 19 2 k.val = .ok (.serviceNumber k .topRow) ∧ resolve 22 1 (8 + k.val) = .ok (.regionFirst (.service k)) ∧
      resolve 22 2 (8 + k.val) = .ok (.regionCount (.service k))) ∧
    resolve 22 1 12 = .ok (.regionFirst .pool) ∧ resolve 22 2 12 = .ok (.regionCount .pool)) ∧
  (let part := [(1, 1), (2, 1), (3, 1), (20, 1), (21, 1)]
    let port := [(4, 1), (5, 1), (6, 1), (7, 1), (8, 1), (9, 1), (9, 2)]
    let group := [(10, 1), (11, 1)]
    let service := [(12, 1), (13, 1), (14, 1), (15, 1), (16, 1), (17, 1), (17, 2), (17, 3), (17, 4), (17, 5), (17, 6),
      (17, 7), (17, 8), (17, 9), (18, 1), (19, 1), (19, 2)]
    let region := [(22, 1), (22, 2)]
    (∀ x ∈ port, ∀ n, 8 ≤ n → resolve x.1 x.2 n = .error .range) ∧
    (∀ x ∈ group ++ service, ∀ n, 4 ≤ n → resolve x.1 x.2 n = .error .range) ∧
    (∀ x ∈ region, ∀ n, 13 ≤ n → resolve x.1 x.2 n = .error .range) ∧
    ∀ row member n, (row, member) ∉ part ++ port ++ group ++ service ++ region →
      resolve row member n = .error .unknown) ∧
  (∀ (s : State) (p : Port) (g : Group) (k : Service),
    let x := (s.port p).par
    let y := (s.service k).par
    Param.read .frameRate s = .num s.ref.rate.fps ∧ Param.read .trim s = .num s.ref.trim ∧
    Param.read .silenceTimeout s = .num s.silenceTimeout ∧ Param.read (.portKind p) s = .kind x.kind ∧
    Param.read (.portGroup p) s = .group x.group ∧ Param.read (.portNumber p .lag) s = .num x.lag ∧
    Param.read (.portNumber p .holdTime) s = .num x.holdTime ∧ Param.read (.flowControl p) s = .enabled x.flowControl ∧
    Param.read (.portNumber p .hw) s = .num x.hw ∧ Param.read (.portNumber p .lw) s = .num x.lw ∧
    Param.read (.yieldTimeout g) s = .num (s.group g).yieldTimeout ∧
    Param.read (.failover g) s = .enabled (s.group g).failover ∧ Param.read (.serviceEnable k) s = .enabled y.enabled ∧
    Param.read (.route k) s = .group y.route ∧ Param.read (.serviceNumber k .rowWidth) s = .num y.rowWidth ∧
    Param.read (.serviceNumber k .rowsPerCue) s = .num y.rowsPerCue ∧
    Param.read (.serviceNumber k .idleClose) s = .num y.idleClose ∧ Param.read (.serviceNumber k .delay) s = .num y.delay ∧
    Param.read (.serviceNumber k .lead) s = .num y.lead ∧
    Param.read (.serviceNumber k .closeMargin) s = .num y.closeMargin ∧
    Param.read (.serviceNumber k .minReading) s = .num y.minReading ∧
    Param.read (.serviceNumber k .catchupFloor) s = .num y.catchupFloor ∧
    Param.read (.serviceNumber k .readingRate) s = .num y.readingRate ∧
    Param.read (.serviceNumber k .gap) s = .num y.gap ∧ Param.read (.serviceNumber k .lateLimit) s = .num y.lateLimit ∧
    Param.read (.serviceNumber k .maxHold) s = .num y.maxHold ∧ Param.read (.serviceNumber k .weight) s = .num y.weight ∧
    Param.read (.serviceNumber k .baseRow) s = .num y.baseRow ∧ Param.read (.serviceNumber k .topRow) s = .num y.topRow ∧
    Param.read .schedMode s = .mode s.schedMode ∧ Param.read .budget s = .num s.budget ∧
    Param.read (.regionFirst (.port p)) s = .num x.region.first ∧
    Param.read (.regionCount (.port p)) s = .num x.region.count ∧
    Param.read (.regionFirst (.service k)) s = .num y.region.first ∧
    Param.read (.regionCount (.service k)) s = .num y.region.count ∧
    Param.read (.regionFirst .pool) s = .num s.poolRegion.first ∧
    Param.read (.regionCount .pool) s = .num s.poolRegion.count) ∧
  (∀ (s : State), s.sup.transaction = .carrying →
    let reply : Instr → Byte → Code → ResponseFields → Prop := fun c type code fields =>
      exec c s = .next { s with
        sup := { s.sup with executing := some ⟨type, code, false, s.ref.smc, fields⟩, transaction := .none } }
    (∀ row member index,
      (∀ e, resolve row member index = .error e → reply (.parameterRead row member index) 0x80 e .none) ∧
      (∀ x, resolve row member index = .ok x → reply (.parameterRead row member index) 0x80 .ok (.value (x.read s)))) ∧
    reply .referenceStatus 0x8C .ok (.reference ⟨s.ref.state, s.ref.origin, s.ref.goodCount, s.ref.smc, s.ref.phase,
      s.ref.anchor.isSome, s.ref.anchor.map fun a => labelOfFrame a.frame s.ref.rate⟩) ∧
    (∀ p : Port, reply (.portStatus p.val) 0x8D .ok (.port ⟨(s.port p).link, (s.port p).window,
      (s.port p).window.min?, (s.port p).queue.length, (s.port p).marks, (s.port p).flow, (s.port p).history.length,
      (s.port p).load⟩)) ∧
    (∀ g : Group, reply (.groupStatus g.val) 0x8E .ok (.group ⟨(s.group g).onAir, (s.group g).taking,
      (s.group g).yielding, (s.group g).cut, (s.group g).grant, (s.group g).yieldDeadline⟩)) ∧
    (∀ k : Service,
      let v := s.service k
      reply (.serviceStatus k.val) 0x8F .ok (.service
        { par := v.par
          liveRoute := v.liveRoute
          openCue := v.openCue.map fun o => ⟨o.body.id, rowLength o.body.row1, rowLength o.body.row2,
            rowLength o.body.row1 + rowLength o.body.row2⟩
          phase := v.phase
          lastLateness := v.lastLateness
          occupancy := v.queue.length
          head := v.queue.head?.map fun c => (c.body.id, c.present)
          tail := v.queue.getLast?.map fun c => (c.body.id, c.present)
          display := match v.display with
            | .blank => none
            | .showing r => some ⟨r.cueId, r.source, r.band, r.shown⟩
          control := v.control
          shownLateness := v.shownLateness
          deficit := v.deficit
          schedMode := s.schedMode
          budget := s.budget
          roundRobin := s.roundRobin
          rowMap := v.rowMap
          segCurrent := v.segCurrent
          segPrevious := v.segPrevious
          lastChange := v.lastChange
          switches := v.switches.map fun e => (e.switch, e.body)
          kindInForce := v.kindInForce
          liveStart := v.liveStart
          lastSwitch := v.lastSwitch
          pointer := v.pointer.map fun q =>
            (q.package, if q.pos ≤ ((s.findPackage q.package).map fun r => r.cues.length).getD 0 then some q.pos else none,
              q.switch) })) ∧
    reply .layoutStatus 0x90 .ok (.layout ⟨s.ports.map fun x => x.par.region, s.services.map fun v => v.par.region,
      s.poolRegion, s.layout⟩) ∧
    reply .automationStatus 0x91 .ok (.automation (s.events.map fun e => (e.effect, e.body.tag, e.service))) ∧
    reply .packageStatus 0x92 .ok (.packages (s.packages.map fun o => o.map fun r =>
      ⟨r.id, r.state, r.declared, r.cues.length, r.loadingPort, s.playingOn r.id⟩) (poolUse s.packages)) ∧
    (∀ n, (8 ≤ n → reply (.portStatus n) 0x8D .range .none) ∧ (4 ≤ n → reply (.groupStatus n) 0x8E .range .none) ∧
      (4 ≤ n → reply (.serviceStatus n) 0x8F .range .none))) ∧
  (∀ n (r : Rate), n < 86400 * r.fps →
    let l := labelOfFrame n r
    ((l.hours * 60 + l.minutes) * 60 + l.seconds) * r.fps + l.frames = n ∧
      l.hours < 24 ∧ l.minutes < 60 ∧ l.seconds < 60 ∧ l.frames < r.fps)

/-- PARAMETER WRITE and the writes with an effect of their own (R11, R34, R53, R54, R101, R120, R178, R179): UNKNOWN or
RANGE for a parameter outside the table, MODE, RANGE; a write that is taken is read back with OK; a write of the value held
changes nothing, but for a route whose live value differs (log 13) and for flow control of a HELD port.
A value of the wrong shape is refused RANGE (log 15).
The modes, the ranges and the parameter that each write replaces are those of the table of R178, with M and M_f bounding each
other (R78) and a change of either number of the pool region discarding every package (R101). That a change of the frame rate
leaves the state qualified from, the holdover period and the moment of the last boundary is the model's reading (log 17), the
moment of the write is an operand (log 3) in the model's tick (log 1), and the form of names and values is the model's
(log 15). -/
def Obligations.ParameterWrites : Prop :=
  ((∀ x : Param, x.writableInRun = false ↔ x = .frameRate ∨ (∃ p, x = .portKind p ∨ x = .portGroup p ∨
      x = .portNumber p .hw ∨ x = .portNumber p .lw) ∨ (∃ k, x = .serviceEnable k) ∨
      ∃ r, x = .regionFirst r ∨ x = .regionCount r) ∧
    ∀ (s : State) (v : ParamValue),
      let within : Int → Int → Prop := fun lo hi => ∃ n, v = .num n ∧ lo ≤ n ∧ n ≤ hi
      (Param.accepts .frameRate s v = true ↔ v = .num 25 ∨ v = .num 30 ∨ v = .num 50 ∨ v = .num 60) ∧
      (Param.accepts .trim s v = true ↔ within (-32) 31) ∧
      (Param.accepts .silenceTimeout s v = true ↔ within 1000 10000) ∧
      (Param.accepts .schedMode s v = true ↔ ∃ m, v = .mode m) ∧
      (Param.accepts .budget s v = true ↔ within 96 512) ∧
      (∀ r, (Param.accepts (.regionFirst r) s v = true ↔ within 0 255) ∧
        (Param.accepts (.regionCount r) s v = true ↔ within 0 256)) ∧
      (∀ g, (Param.accepts (.yieldTimeout g) s v = true ↔ within 1000 10000) ∧
        (Param.accepts (.failover g) s v = true ↔ ∃ b, v = .enabled b)) ∧
      (∀ p, (Param.accepts (.portKind p) s v = true ↔ ∃ x, v = .kind x) ∧
        (Param.accepts (.portGroup p) s v = true ↔ ∃ g, v = .group g) ∧
        (Param.accepts (.flowControl p) s v = true ↔ ∃ b, v = .enabled b) ∧
        (Param.accepts (.portNumber p .lag) s v = true ↔ within 0 4000) ∧
        (Param.accepts (.portNumber p .holdTime) s v = true ↔ within 100 5000) ∧
        (Param.accepts (.portNumber p .hw) s v = true ↔ within 0 16384) ∧
        (Param.accepts (.portNumber p .lw) s v = true ↔ within 0 16383)) ∧
      ∀ k, let y := (s.service k).par
        (Param.accepts (.serviceEnable k) s v = true ↔ ∃ b, v = .enabled b) ∧
        (Param.accepts (.route k) s v = true ↔ ∃ g, v = .group g) ∧
        (Param.accepts (.serviceNumber k .rowWidth) s v = true ↔ within 28 42) ∧
        (Param.accepts (.serviceNumber k .rowsPerCue) s v = true ↔ within 1 2) ∧
        (Param.accepts (.serviceNumber k .idleClose) s v = true ↔ within 500 5000) ∧
        (Param.accepts (.serviceNumber k .delay) s v = true ↔ within 0 12000) ∧
        (Param.accepts (.serviceNumber k .lead) s v = true ↔ within 0 1000) ∧
        (Param.accepts (.serviceNumber k .closeMargin) s v = true ↔ within 80 1000) ∧
        (Param.accepts (.serviceNumber k .minReading) s v = true ↔
          within 500 5000 ∧ ∃ n : Int, v = .num n ∧ y.catchupFloor ≤ n) ∧
        (Param.accepts (.serviceNumber k .catchupFloor) s v = true ↔ within 300 y.minReading) ∧
        (Param.accepts (.serviceNumber k .readingRate) s v = true ↔ within 8 30) ∧
        (Param.accepts (.serviceNumber k .gap) s v = true ↔ within 0 200) ∧
        (Param.accepts (.serviceNumber k .lateLimit) s v = true ↔ within 1000 10000) ∧
        (Param.accepts (.serviceNumber k .maxHold) s v = true ↔ within 2000 10000) ∧
        (Param.accepts (.serviceNumber k .weight) s v = true ↔ within 1 8) ∧
        (Param.accepts (.serviceNumber k .baseRow) s v = true ↔ within 2 15) ∧
        (Param.accepts (.serviceNumber k .topRow) s v = true ↔ within 1 14)) ∧
  (∀ (s : State) (m : Moment) (n : Nat) (z : Int) (b : Bool) (o : Option Group) (kind : PortKind),
    Param.write .trim m (.num z) s = { s with ref := { s.ref with trim := z } } ∧
    Param.write .silenceTimeout m (.num n) s = { s with silenceTimeout := n } ∧
    Param.write .budget m (.num n) s = { s with budget := n } ∧
    (∀ g, Param.write (.yieldTimeout g) m (.num n) s = s.setGroup g { s.group g with yieldTimeout := n } ∧
      Param.write (.failover g) m (.enabled b) s = s.setGroup g { s.group g with failover := b }) ∧
    (∀ p, let x := (s.port p).par
      let put : PortParams → State := fun y => s.setPort p { s.port p with par := y }
      Param.write (.portKind p) m (.kind kind) s = put { x with kind := kind } ∧
      Param.write (.portGroup p) m (.group o) s = put { x with group := o } ∧
      Param.write (.portNumber p .lag) m (.num n) s = put { x with lag := n } ∧
      Param.write (.portNumber p .holdTime) m (.num n) s = put { x with holdTime := n } ∧
      Param.write (.portNumber p .hw) m (.num n) s = put { x with hw := n } ∧
      Param.write (.portNumber p .lw) m (.num n) s = put { x with lw := n } ∧
      Param.write (.regionFirst (.port p)) m (.num n) s = put { x with region := { x.region with first := n } } ∧
      Param.write (.regionCount (.port p)) m (.num n) s = put { x with region := { x.region with count := n } }) ∧
    ∀ k, let x := (s.service k).par
      let put : ServiceParams → State := fun y => s.setService k { s.service k with par := y }
      Param.write (.serviceEnable k) m (.enabled b) s = put { x with enabled := b } ∧
      Param.write (.serviceNumber k .rowWidth) m (.num n) s = put { x with rowWidth := n } ∧
      Param.write (.serviceNumber k .rowsPerCue) m (.num n) s = put { x with rowsPerCue := n } ∧
      Param.write (.serviceNumber k .idleClose) m (.num n) s = put { x with idleClose := n } ∧
      Param.write (.serviceNumber k .delay) m (.num n) s = put { x with delay := n } ∧
      Param.write (.serviceNumber k .lead) m (.num n) s = put { x with lead := n } ∧
      Param.write (.serviceNumber k .closeMargin) m (.num n) s = put { x with closeMargin := n } ∧
      Param.write (.serviceNumber k .minReading) m (.num n) s = put { x with minReading := n } ∧
      Param.write (.serviceNumber k .catchupFloor) m (.num n) s = put { x with catchupFloor := n } ∧
      Param.write (.serviceNumber k .readingRate) m (.num n) s = put { x with readingRate := n } ∧
      Param.write (.serviceNumber k .gap) m (.num n) s = put { x with gap := n } ∧
      Param.write (.serviceNumber k .lateLimit) m (.num n) s = put { x with lateLimit := n } ∧
      Param.write (.serviceNumber k .maxHold) m (.num n) s = put { x with maxHold := n } ∧
      Param.write (.serviceNumber k .weight) m (.num n) s = put { x with weight := n } ∧
      Param.write (.serviceNumber k .baseRow) m (.num n) s = put { x with baseRow := n } ∧
      Param.write (.serviceNumber k .topRow) m (.num n) s = put { x with topRow := n } ∧
      Param.write (.regionFirst (.service k)) m (.num n) s = put { x with region := { x.region with first := n } } ∧
      Param.write (.regionCount (.service k)) m (.num n) s = put { x with region := { x.region with count := n } }) ∧
  (∀ (s : State), s.sup.transaction = .carrying →
    let reply : Instr → Code → ResponseFields → State → Prop := fun c code fields t =>
      exec c s = .next { t with
        sup := { t.sup with executing := some ⟨0x81, code, false, s.ref.smc, fields⟩, transaction := .none } }
    (∀ m row member index v,
      (∀ e, resolve row member index = .error e → reply (.parameterWrite m row member index v) e .none s) ∧
      (∀ x, resolve row member index = .ok x →
        (s.mode = .run → x.writableInRun = false → reply (.parameterWrite m row member index v) .mode .none s) ∧
        (s.mode = .config ∨ x.writableInRun = true →
          (x.accepts s v = false → reply (.parameterWrite m row member index v) .range .none s) ∧
          (x.accepts s v = true →
            reply (.parameterWrite m row member index v) .ok (.value v) (x.write m v s) ∧ x.read (x.write m v s) = v ∧
            (x.read s = v → (∀ k, x ≠ .route k) → (∀ p, x = .flowControl p → (s.port p).flow = .flowing) →
              x.write m v s = s))))) ∧
    (∀ m v i, exec (.frameRateWrite m v) s = exec (.parameterWrite m 1 1 0 v) s ∧
      exec (.configuredRouteWrite i v) s = exec (.parameterWrite 0 13 1 i v) s ∧
      exec (.flowControlWrite i v) s = exec (.parameterWrite 0 8 1 i v) s ∧
      exec (.schedulingModeWrite v) s = exec (.parameterWrite 0 20 1 0 v) s ∧
      exec (.poolRegionWrite i v) s = exec (.parameterWrite 0 22 i 12 v) s) ∧
    (∀ m (r : Rate), s.mode = .config → r ≠ s.ref.rate → ∀ n : Nat, -32 ≤ s.ref.trim → s.ref.trim ≤ 31 →
      (10000 * n : Int) = r.nominal * (10000 + s.ref.trim) →
      reply (.frameRateWrite m (.num r.fps)) .ok (.value (.num r.fps)) { s with ref := { s.ref with
        state := .free
        rate := r
        phase := 0
        goodCount := 0
        history := []
        pulseRecord := none
        anchor := none
        flywheel := some (m + n) } }) ∧
    (∀ (k : Service) (g : Option Group),
      let v := s.service k
      let t := s.setService k { v with par := { v.par with route := g } }
      (s.mode = .config ∨ v.par.enabled = false ∨ v.liveRoute = g →
        reply (.configuredRouteWrite k.val (.group g)) .ok (.value (.group g)) t) ∧
      (s.mode = .run → v.par.enabled = true → v.liveRoute ≠ g →
        let u := t.closeCue k
        reply (.configuredRouteWrite k.val (.group g)) .ok (.value (.group g))
          (u.setService k { u.service k with liveRoute := g }))) ∧
    (∀ (p : Port) (b : Bool),
      let x := s.port p
      let y := { x with par := { x.par with flowControl := b } }
      (b = true ∨ x.flow = .flowing →
        reply (.flowControlWrite p.val (.enabled b)) .ok (.value (.enabled b)) (s.setPort p y)) ∧
      (b = false → x.flow = .held →
        reply (.flowControlWrite p.val (.enabled b)) .ok (.value (.enabled b))
          ((s.setPort p { y with flow := .flowing, refresh := none }).sendPort p .resume))) ∧
    (∀ m, m ≠ s.schedMode → reply (.schedulingModeWrite (.mode m)) .ok (.value (.mode m)) { s with
      schedMode := m
      roundRobin := 3
      services := s.services.map fun v => { v with deficit := 0 } }) ∧
    (∀ n : Nat, s.mode = .config →
      let discarded : State := { s with
        packages := List.replicate 32 none
        ports := s.ports.map fun x => { x with load := .idle } }
      (n ≤ 255 → n ≠ s.poolRegion.first →
        reply (.poolRegionWrite 1 (.num n)) .ok (.value (.num n)) { discarded with
          poolRegion := { s.poolRegion with first := n } }) ∧
      (n ≤ 256 → n ≠ s.poolRegion.count →
        reply (.poolRegionWrite 2 (.num n)) .ok (.value (.num n)) { discarded with
          poolRegion := { s.poolRegion with count := n } })))

/-- START, STOP and FLUSH, carried by a transaction (R99 to R101, R107, R108, R177, R181, R182): each is refused MODE in the
other mode. START is refused LAYOUT with the first region that fails, and changes nothing; it passes exactly when the
regions it takes are present, within the store and apart. STOP sends a CLEAR for each SHOWING service and leaves every block
idle. The flushes return what they discard.
A flush of a number outside its range is refused MODE in CONFIG (log 12), and a port that has no region has no watermarks from
START on (log 23): both are the model's choices, and so is that a region which fails both BOUNDS and OVERLAP is named BOUNDS
(log 36). The check takes the regions of the WRITER and SCRIPT ports, P0 to P7, of the enabled services, S0 to S3, and the
pool's where a SCRIPT port needs one or one is configured; and START puts exactly these in force, each with its first block. -/
def Obligations.StartStopFlush : Prop :=
  (allPorts = [0, 1, 2, 3, 4, 5, 6, 7] ∧ allServices = [0, 1, 2, 3] ∧ ∀ s : State,
    let ports := allPorts.filter fun p => decide ((s.port p).par.kind = .writer ∨ (s.port p).par.kind = .script)
    let services := allServices.filter fun k => (s.service k).par.enabled
    let pool : List Taken :=
      if (∃ p, (s.port p).par.kind = .script) ∨ 0 < s.poolRegion.count then [⟨.pool, s.poolRegion⟩] else []
    s.takenRegions = ports.map (fun p => ⟨.port p, (s.port p).par.region⟩) ++
      services.map (fun k => ⟨.service k, (s.service k).par.region⟩) ++ pool) ∧
  (∀ (s : State), s.sup.transaction = .carrying →
    let reply : Instr → Byte → Code → ResponseFields → State → Prop := fun c type code fields t =>
      exec c s = .next { t with
        sup := { t.sup with executing := some ⟨type, code, false, s.ref.smc, fields⟩, transaction := .none } }
    (s.mode = .run → reply .start 0x82 .mode .none s) ∧
    (s.mode = .config → reply .stop 0x83 .mode .none s ∧
      ∀ n, reply (.flushPort n) 0x84 .mode .none s ∧ reply (.flushService n) 0x85 .mode .none s) ∧
    (s.mode = .config →
      (∀ n f, layoutCheck s.takenRegions = some (n, f) → reply .start 0x82 .layout (.layoutFailure n f) s) ∧
      (layoutCheck s.takenRegions = none → ∃ t, reply .start 0x82 .ok .none t ∧
        SameBut [.mode, .layout, .ports, .services] s t ∧ t.mode = .run ∧
        (∀ p, t.port p = { s.port p with marks := (t.portRegion p).map fun b =>
            let x := (s.port p).par
            if 1 ≤ x.lw ∧ x.lw < x.hw ∧ x.hw ≤ 64 * b.count then (x.hw, x.lw)
            else (64 * b.count * 3 / 4, 64 * b.count / 4) } ∧
          t.portRegion p = if (s.port p).par.kind = .unused then none else some (s.port p).par.region) ∧
        (∀ k, t.service k = { s.service k with
            liveRoute := if (s.service k).par.enabled = true then (s.service k).par.route else none } ∧
          t.queueCapacity k = if (s.service k).par.enabled = true then 64 * (s.service k).par.region.count else 0) ∧
        t.poolCapacity = 64 * s.poolRegion.count ∧
        ∃ l, t.layout = some l ∧
          (∀ p, l.ports.get p = if (s.port p).par.kind = .unused then none else some (s.port p).par.region) ∧
          (∀ k, l.services.get k = if (s.service k).par.enabled = true then some (s.service k).par.region else none) ∧
          l.pool = if (∃ p, (s.port p).par.kind = .script) ∨ 0 < s.poolRegion.count then some s.poolRegion else none)) ∧
    (s.mode = .run → ∃ t, reply .stop 0x83 .ok .none t ∧
      SameBut [.mode, .ports, .groups, .services, .roundRobin, .busyCount, .events, .packages, .sent] s t ∧
      t.mode = .config ∧ t.roundRobin = 3 ∧ t.busyCount = 0 ∧ t.events = [] ∧
      t.sent = { s.sent with output := s.sent.output ++
        (allServices.filter fun k => decide ((s.service k).display ≠ .blank)).map .clear } ∧
      (∀ p, t.port p = { PortState.reset with par := (s.port p).par, marks := (s.port p).marks }) ∧
      (∀ g, t.group g = { GroupState.reset with
        yieldTimeout := (s.group g).yieldTimeout, failover := (s.group g).failover }) ∧
      (∀ k, t.service k = { ServiceState.reset with
        par := (s.service k).par, liveRoute := (s.service k).par.route, cueCounter := (s.service k).cueCounter }) ∧
      t.packages = s.packages.map fun o => o.bind fun r => if r.state = .ready then some r else none) ∧
    (s.mode = .run →
      (∀ n, 8 ≤ n → reply (.flushPort n) 0x84 .range .none s) ∧
      (∀ n, 4 ≤ n → reply (.flushService n) 0x85 .range .none s) ∧
      (∀ p : Port,
        let x := { s.port p with queue := [] }
        let n := (s.port p).queue.length
        ((s.port p).flow = .flowing → reply (.flushPort p.val) 0x84 .ok (.count n) (s.setPort p x)) ∧
        ((s.port p).flow = .held → (s.port p).marks.isSome = true →
          reply (.flushPort p.val) 0x84 .ok (.count n)
            ((s.setPort p { x with flow := .flowing, refresh := none }).sendPort p .resume))) ∧
      (∀ k : Service,
        let v := s.service k
        let ids := (match v.openCue with | none => [] | some o => [o.body.id]) ++ v.queue.map fun c => c.body.id
        reply (.flushService k.val) 0x85 .ok (.count ids.length)
          (ids.foldl (fun t id => t.markCue k id .gone) (s.setService k { v with openCue := none, queue := [] }))))) ∧
  (∀ all : List Taken,
    let fails : Taken → Option LayoutFailure := fun x =>
      if x.region.count = 0 then some .missing
      else if 256 < x.region.first + x.region.count then some .bounds
      else if ∃ y ∈ all, y.name ≠ x.name ∧ 0 < y.region.count ∧
          x.region.first < y.region.first + y.region.count ∧ y.region.first < x.region.first + x.region.count then
        some .overlap
      else none
    (layoutCheck all = none ↔ ∀ x ∈ all, fails x = none) ∧
    (∀ n f, layoutCheck all = some (n, f) ↔
      ∃ before x after, all = before ++ x :: after ∧ x.name = n ∧ fails x = some f ∧ ∀ y ∈ before, fails y = none))
end

