-- ==== Sys2Proof/Laws/Tables.lean ====
section
/-! SUPPORT. The small lemmas of the tables of four and of eight. -/

namespace Sys2Proof

theorem Per4.ext_get {α : Type} {t u : Per4 α} (h : ∀ i, t.get i = u.get i) : t = u := by
  have h0 := h 0
  have h1 := h 1
  have h2 := h 2
  have h3 := h 3
  cases t; cases u
  simp only [Per4.get] at h0 h1 h2 h3
  simp [h0, h1, h2, h3]

theorem Per8.ext_get {α : Type} {t u : Per8 α} (h : ∀ i, t.get i = u.get i) : t = u := by
  have h0 := h 0
  have h1 := h 1
  have h2 := h 2
  have h3 := h 3
  have h4 := h 4
  have h5 := h 5
  have h6 := h 6
  have h7 := h 7
  cases t; cases u
  simp only [Per8.get] at h0 h1 h2 h3 h4 h5 h6 h7
  simp [h0, h1, h2, h3, h4, h5, h6, h7]

@[simp] theorem Per4.get_set {α : Type} (t : Per4 α) (i j : Fin 4) (x : α) :
    (t.set i x).get j = if j = i then x else t.get j := by
  fin_cases i <;> fin_cases j <;> rfl

@[simp] theorem Per8.get_set {α : Type} (t : Per8 α) (i j : Fin 8) (x : α) :
    (t.set i x).get j = if j = i then x else t.get j := by
  fin_cases i <;> fin_cases j <;> rfl

@[simp] theorem Per4.get_all {α : Type} (x : α) (i : Fin 4) : (Per4.all x).get i = x := by fin_cases i <;> rfl

@[simp] theorem Per8.get_all {α : Type} (x : α) (i : Fin 8) : (Per8.all x).get i = x := by fin_cases i <;> rfl

@[simp] theorem Per4.get_map {α β : Type} (t : Per4 α) (f : α → β) (i : Fin 4) : (t.map f).get i = f (t.get i) := by
  fin_cases i <;> rfl

@[simp] theorem Per8.get_map {α β : Type} (t : Per8 α) (f : α → β) (i : Fin 8) : (t.map f).get i = f (t.get i) := by
  fin_cases i <;> rfl

@[simp] theorem Per4.get_tabulate {α : Type} (f : Fin 4 → α) (i : Fin 4) : (Per4.tabulate f).get i = f i := by
  fin_cases i <;> rfl

@[simp] theorem Per8.get_tabulate {α : Type} (f : Fin 8 → α) (i : Fin 8) : (Per8.tabulate f).get i = f i := by
  fin_cases i <;> rfl

@[simp] theorem Per4.set_get {α : Type} (t : Per4 α) (i : Fin 4) : t.set i (t.get i) = t := by
  fin_cases i <;> rfl

@[simp] theorem Per8.set_get {α : Type} (t : Per8 α) (i : Fin 8) : t.set i (t.get i) = t := by
  fin_cases i <;> rfl

@[simp] theorem Per4.set_set {α : Type} (t : Per4 α) (i : Fin 4) (x y : α) : (t.set i x).set i y = t.set i y := by
  fin_cases i <;> rfl

@[simp] theorem Per8.set_set {α : Type} (t : Per8 α) (i : Fin 8) (x y : α) : (t.set i x).set i y = t.set i y := by
  fin_cases i <;> rfl

theorem mem_allPorts (p : Port) : p ∈ allPorts := by fin_cases p <;> simp [allPorts]

theorem mem_allGroups (g : Group) : g ∈ allGroups := by fin_cases g <;> simp [allGroups]

theorem mem_allServices (k : Service) : k ∈ allServices := by fin_cases k <;> simp [allServices]

end Sys2Proof
end

