-- ==== Sys2Proof/Laws/State.lean ====
section
/-! SUPPORT. One lemma per field for each update of the state, and for the readings of a port, a group and a service. -/

namespace Sys2Proof.Machine

@[simp] theorem State.setPort_pending (s : State) (p : Port) (x : PortState) :
    (s.setPort p x).pending = s.pending := rfl
@[simp] theorem State.setPort_mode (s : State) (p : Port) (x : PortState) : (s.setPort p x).mode = s.mode := rfl
@[simp] theorem State.setPort_ref (s : State) (p : Port) (x : PortState) : (s.setPort p x).ref = s.ref := rfl
@[simp] theorem State.setPort_groups (s : State) (p : Port) (x : PortState) : (s.setPort p x).groups = s.groups := rfl
@[simp] theorem State.setPort_services (s : State) (p : Port) (x : PortState) :
    (s.setPort p x).services = s.services := rfl
@[simp] theorem State.setPort_silenceTimeout (s : State) (p : Port) (x : PortState) :
    (s.setPort p x).silenceTimeout = s.silenceTimeout := rfl
@[simp] theorem State.setPort_schedMode (s : State) (p : Port) (x : PortState) :
    (s.setPort p x).schedMode = s.schedMode := rfl
@[simp] theorem State.setPort_budget (s : State) (p : Port) (x : PortState) : (s.setPort p x).budget = s.budget := rfl
@[simp] theorem State.setPort_poolRegion (s : State) (p : Port) (x : PortState) :
    (s.setPort p x).poolRegion = s.poolRegion := rfl
@[simp] theorem State.setPort_layout (s : State) (p : Port) (x : PortState) : (s.setPort p x).layout = s.layout := rfl
@[simp] theorem State.setPort_roundRobin (s : State) (p : Port) (x : PortState) :
    (s.setPort p x).roundRobin = s.roundRobin := rfl
@[simp] theorem State.setPort_inserter (s : State) (p : Port) (x : PortState) :
    (s.setPort p x).inserter = s.inserter := rfl
@[simp] theorem State.setPort_busyCount (s : State) (p : Port) (x : PortState) :
    (s.setPort p x).busyCount = s.busyCount := rfl
@[simp] theorem State.setPort_events (s : State) (p : Port) (x : PortState) : (s.setPort p x).events = s.events := rfl
@[simp] theorem State.setPort_packages (s : State) (p : Port) (x : PortState) :
    (s.setPort p x).packages = s.packages := rfl
@[simp] theorem State.setPort_counters (s : State) (p : Port) (x : PortState) :
    (s.setPort p x).counters = s.counters := rfl
@[simp] theorem State.setPort_alerts (s : State) (p : Port) (x : PortState) : (s.setPort p x).alerts = s.alerts := rfl
@[simp] theorem State.setPort_sup (s : State) (p : Port) (x : PortState) : (s.setPort p x).sup = s.sup := rfl
@[simp] theorem State.setPort_sent (s : State) (p : Port) (x : PortState) : (s.setPort p x).sent = s.sent := rfl
@[simp] theorem State.setPort_freeIndex (s : State) (p : Port) (x : PortState) :
    (s.setPort p x).freeIndex = s.freeIndex := rfl

@[simp] theorem State.setGroup_pending (s : State) (g : Group) (x : GroupState) :
    (s.setGroup g x).pending = s.pending := rfl
@[simp] theorem State.setGroup_mode (s : State) (g : Group) (x : GroupState) : (s.setGroup g x).mode = s.mode := rfl
@[simp] theorem State.setGroup_ref (s : State) (g : Group) (x : GroupState) : (s.setGroup g x).ref = s.ref := rfl
@[simp] theorem State.setGroup_ports (s : State) (g : Group) (x : GroupState) :
    (s.setGroup g x).ports = s.ports := rfl
@[simp] theorem State.setGroup_services (s : State) (g : Group) (x : GroupState) :
    (s.setGroup g x).services = s.services := rfl
@[simp] theorem State.setGroup_silenceTimeout (s : State) (g : Group) (x : GroupState) :
    (s.setGroup g x).silenceTimeout = s.silenceTimeout := rfl
@[simp] theorem State.setGroup_schedMode (s : State) (g : Group) (x : GroupState) :
    (s.setGroup g x).schedMode = s.schedMode := rfl
@[simp] theorem State.setGroup_budget (s : State) (g : Group) (x : GroupState) :
    (s.setGroup g x).budget = s.budget := rfl
@[simp] theorem State.setGroup_poolRegion (s : State) (g : Group) (x : GroupState) :
    (s.setGroup g x).poolRegion = s.poolRegion := rfl
@[simp] theorem State.setGroup_layout (s : State) (g : Group) (x : GroupState) :
    (s.setGroup g x).layout = s.layout := rfl
@[simp] theorem State.setGroup_roundRobin (s : State) (g : Group) (x : GroupState) :
    (s.setGroup g x).roundRobin = s.roundRobin := rfl
@[simp] theorem State.setGroup_inserter (s : State) (g : Group) (x : GroupState) :
    (s.setGroup g x).inserter = s.inserter := rfl
@[simp] theorem State.setGroup_busyCount (s : State) (g : Group) (x : GroupState) :
    (s.setGroup g x).busyCount = s.busyCount := rfl
@[simp] theorem State.setGroup_events (s : State) (g : Group) (x : GroupState) :
    (s.setGroup g x).events = s.events := rfl
@[simp] theorem State.setGroup_packages (s : State) (g : Group) (x : GroupState) :
    (s.setGroup g x).packages = s.packages := rfl
@[simp] theorem State.setGroup_counters (s : State) (g : Group) (x : GroupState) :
    (s.setGroup g x).counters = s.counters := rfl
@[simp] theorem State.setGroup_alerts (s : State) (g : Group) (x : GroupState) :
    (s.setGroup g x).alerts = s.alerts := rfl
@[simp] theorem State.setGroup_sup (s : State) (g : Group) (x : GroupState) : (s.setGroup g x).sup = s.sup := rfl
@[simp] theorem State.setGroup_sent (s : State) (g : Group) (x : GroupState) : (s.setGroup g x).sent = s.sent := rfl
@[simp] theorem State.setGroup_freeIndex (s : State) (g : Group) (x : GroupState) :
    (s.setGroup g x).freeIndex = s.freeIndex := rfl

@[simp] theorem State.setService_pending (s : State) (k : Service) (x : ServiceState) :
    (s.setService k x).pending = s.pending := rfl
@[simp] theorem State.setService_mode (s : State) (k : Service) (x : ServiceState) :
    (s.setService k x).mode = s.mode := rfl
@[simp] theorem State.setService_ref (s : State) (k : Service) (x : ServiceState) :
    (s.setService k x).ref = s.ref := rfl
@[simp] theorem State.setService_ports (s : State) (k : Service) (x : ServiceState) :
    (s.setService k x).ports = s.ports := rfl
@[simp] theorem State.setService_groups (s : State) (k : Service) (x : ServiceState) :
    (s.setService k x).groups = s.groups := rfl
@[simp] theorem State.setService_silenceTimeout (s : State) (k : Service) (x : ServiceState) :
    (s.setService k x).silenceTimeout = s.silenceTimeout := rfl
@[simp] theorem State.setService_schedMode (s : State) (k : Service) (x : ServiceState) :
    (s.setService k x).schedMode = s.schedMode := rfl
@[simp] theorem State.setService_budget (s : State) (k : Service) (x : ServiceState) :
    (s.setService k x).budget = s.budget := rfl
@[simp] theorem State.setService_poolRegion (s : State) (k : Service) (x : ServiceState) :
    (s.setService k x).poolRegion = s.poolRegion := rfl
@[simp] theorem State.setService_layout (s : State) (k : Service) (x : ServiceState) :
    (s.setService k x).layout = s.layout := rfl
@[simp] theorem State.setService_roundRobin (s : State) (k : Service) (x : ServiceState) :
    (s.setService k x).roundRobin = s.roundRobin := rfl
@[simp] theorem State.setService_inserter (s : State) (k : Service) (x : ServiceState) :
    (s.setService k x).inserter = s.inserter := rfl
@[simp] theorem State.setService_busyCount (s : State) (k : Service) (x : ServiceState) :
    (s.setService k x).busyCount = s.busyCount := rfl
@[simp] theorem State.setService_events (s : State) (k : Service) (x : ServiceState) :
    (s.setService k x).events = s.events := rfl
@[simp] theorem State.setService_packages (s : State) (k : Service) (x : ServiceState) :
    (s.setService k x).packages = s.packages := rfl
@[simp] theorem State.setService_counters (s : State) (k : Service) (x : ServiceState) :
    (s.setService k x).counters = s.counters := rfl
@[simp] theorem State.setService_alerts (s : State) (k : Service) (x : ServiceState) :
    (s.setService k x).alerts = s.alerts := rfl
@[simp] theorem State.setService_sup (s : State) (k : Service) (x : ServiceState) :
    (s.setService k x).sup = s.sup := rfl
@[simp] theorem State.setService_sent (s : State) (k : Service) (x : ServiceState) :
    (s.setService k x).sent = s.sent := rfl
@[simp] theorem State.setService_freeIndex (s : State) (k : Service) (x : ServiceState) :
    (s.setService k x).freeIndex = s.freeIndex := rfl

@[simp] theorem State.setPackages_pending (s : State) (t : List (Option PackageRecord)) :
    (s.setPackages t).pending = s.pending := rfl
@[simp] theorem State.setPackages_mode (s : State) (t : List (Option PackageRecord)) :
    (s.setPackages t).mode = s.mode := rfl
@[simp] theorem State.setPackages_ref (s : State) (t : List (Option PackageRecord)) :
    (s.setPackages t).ref = s.ref := rfl
@[simp] theorem State.setPackages_ports (s : State) (t : List (Option PackageRecord)) :
    (s.setPackages t).ports = s.ports := rfl
@[simp] theorem State.setPackages_groups (s : State) (t : List (Option PackageRecord)) :
    (s.setPackages t).groups = s.groups := rfl
@[simp] theorem State.setPackages_services (s : State) (t : List (Option PackageRecord)) :
    (s.setPackages t).services = s.services := rfl
@[simp] theorem State.setPackages_silenceTimeout (s : State) (t : List (Option PackageRecord)) :
    (s.setPackages t).silenceTimeout = s.silenceTimeout := rfl
@[simp] theorem State.setPackages_schedMode (s : State) (t : List (Option PackageRecord)) :
    (s.setPackages t).schedMode = s.schedMode := rfl
@[simp] theorem State.setPackages_budget (s : State) (t : List (Option PackageRecord)) :
    (s.setPackages t).budget = s.budget := rfl
@[simp] theorem State.setPackages_poolRegion (s : State) (t : List (Option PackageRecord)) :
    (s.setPackages t).poolRegion = s.poolRegion := rfl
@[simp] theorem State.setPackages_layout (s : State) (t : List (Option PackageRecord)) :
    (s.setPackages t).layout = s.layout := rfl
@[simp] theorem State.setPackages_roundRobin (s : State) (t : List (Option PackageRecord)) :
    (s.setPackages t).roundRobin = s.roundRobin := rfl
@[simp] theorem State.setPackages_inserter (s : State) (t : List (Option PackageRecord)) :
    (s.setPackages t).inserter = s.inserter := rfl
@[simp] theorem State.setPackages_busyCount (s : State) (t : List (Option PackageRecord)) :
    (s.setPackages t).busyCount = s.busyCount := rfl
@[simp] theorem State.setPackages_events (s : State) (t : List (Option PackageRecord)) :
    (s.setPackages t).events = s.events := rfl
@[simp] theorem State.setPackages_counters (s : State) (t : List (Option PackageRecord)) :
    (s.setPackages t).counters = s.counters := rfl
@[simp] theorem State.setPackages_alerts (s : State) (t : List (Option PackageRecord)) :
    (s.setPackages t).alerts = s.alerts := rfl
@[simp] theorem State.setPackages_sup (s : State) (t : List (Option PackageRecord)) :
    (s.setPackages t).sup = s.sup := rfl
@[simp] theorem State.setPackages_sent (s : State) (t : List (Option PackageRecord)) :
    (s.setPackages t).sent = s.sent := rfl
@[simp] theorem State.setPackages_freeIndex (s : State) (t : List (Option PackageRecord)) :
    (s.setPackages t).freeIndex = s.freeIndex := rfl

@[simp] theorem State.sendPort_pending (s : State) (p : Port) (m : PortMsg) :
    (s.sendPort p m).pending = s.pending := rfl
@[simp] theorem State.sendPort_mode (s : State) (p : Port) (m : PortMsg) : (s.sendPort p m).mode = s.mode := rfl
@[simp] theorem State.sendPort_ref (s : State) (p : Port) (m : PortMsg) : (s.sendPort p m).ref = s.ref := rfl
@[simp] theorem State.sendPort_ports (s : State) (p : Port) (m : PortMsg) : (s.sendPort p m).ports = s.ports := rfl
@[simp] theorem State.sendPort_groups (s : State) (p : Port) (m : PortMsg) : (s.sendPort p m).groups = s.groups := rfl
@[simp] theorem State.sendPort_services (s : State) (p : Port) (m : PortMsg) :
    (s.sendPort p m).services = s.services := rfl
@[simp] theorem State.sendPort_silenceTimeout (s : State) (p : Port) (m : PortMsg) :
    (s.sendPort p m).silenceTimeout = s.silenceTimeout := rfl
@[simp] theorem State.sendPort_schedMode (s : State) (p : Port) (m : PortMsg) :
    (s.sendPort p m).schedMode = s.schedMode := rfl
@[simp] theorem State.sendPort_budget (s : State) (p : Port) (m : PortMsg) : (s.sendPort p m).budget = s.budget := rfl
@[simp] theorem State.sendPort_poolRegion (s : State) (p : Port) (m : PortMsg) :
    (s.sendPort p m).poolRegion = s.poolRegion := rfl
@[simp] theorem State.sendPort_layout (s : State) (p : Port) (m : PortMsg) : (s.sendPort p m).layout = s.layout := rfl
@[simp] theorem State.sendPort_roundRobin (s : State) (p : Port) (m : PortMsg) :
    (s.sendPort p m).roundRobin = s.roundRobin := rfl
@[simp] theorem State.sendPort_inserter (s : State) (p : Port) (m : PortMsg) :
    (s.sendPort p m).inserter = s.inserter := rfl
@[simp] theorem State.sendPort_busyCount (s : State) (p : Port) (m : PortMsg) :
    (s.sendPort p m).busyCount = s.busyCount := rfl
@[simp] theorem State.sendPort_events (s : State) (p : Port) (m : PortMsg) : (s.sendPort p m).events = s.events := rfl
@[simp] theorem State.sendPort_packages (s : State) (p : Port) (m : PortMsg) :
    (s.sendPort p m).packages = s.packages := rfl
@[simp] theorem State.sendPort_counters (s : State) (p : Port) (m : PortMsg) :
    (s.sendPort p m).counters = s.counters := rfl
@[simp] theorem State.sendPort_alerts (s : State) (p : Port) (m : PortMsg) : (s.sendPort p m).alerts = s.alerts := rfl
@[simp] theorem State.sendPort_sup (s : State) (p : Port) (m : PortMsg) : (s.sendPort p m).sup = s.sup := rfl
@[simp] theorem State.sendPort_freeIndex (s : State) (p : Port) (m : PortMsg) :
    (s.sendPort p m).freeIndex = s.freeIndex := rfl

@[simp] theorem State.sendAnswer_pending (s : State) (a : Answer) : (s.sendAnswer a).pending = s.pending := rfl
@[simp] theorem State.sendAnswer_mode (s : State) (a : Answer) : (s.sendAnswer a).mode = s.mode := rfl
@[simp] theorem State.sendAnswer_ref (s : State) (a : Answer) : (s.sendAnswer a).ref = s.ref := rfl
@[simp] theorem State.sendAnswer_ports (s : State) (a : Answer) : (s.sendAnswer a).ports = s.ports := rfl
@[simp] theorem State.sendAnswer_groups (s : State) (a : Answer) : (s.sendAnswer a).groups = s.groups := rfl
@[simp] theorem State.sendAnswer_services (s : State) (a : Answer) : (s.sendAnswer a).services = s.services := rfl
@[simp] theorem State.sendAnswer_silenceTimeout (s : State) (a : Answer) :
    (s.sendAnswer a).silenceTimeout = s.silenceTimeout := rfl
@[simp] theorem State.sendAnswer_schedMode (s : State) (a : Answer) : (s.sendAnswer a).schedMode = s.schedMode := rfl
@[simp] theorem State.sendAnswer_budget (s : State) (a : Answer) : (s.sendAnswer a).budget = s.budget := rfl
@[simp] theorem State.sendAnswer_poolRegion (s : State) (a : Answer) :
    (s.sendAnswer a).poolRegion = s.poolRegion := rfl
@[simp] theorem State.sendAnswer_layout (s : State) (a : Answer) : (s.sendAnswer a).layout = s.layout := rfl
@[simp] theorem State.sendAnswer_roundRobin (s : State) (a : Answer) :
    (s.sendAnswer a).roundRobin = s.roundRobin := rfl
@[simp] theorem State.sendAnswer_inserter (s : State) (a : Answer) : (s.sendAnswer a).inserter = s.inserter := rfl
@[simp] theorem State.sendAnswer_busyCount (s : State) (a : Answer) : (s.sendAnswer a).busyCount = s.busyCount := rfl
@[simp] theorem State.sendAnswer_events (s : State) (a : Answer) : (s.sendAnswer a).events = s.events := rfl
@[simp] theorem State.sendAnswer_packages (s : State) (a : Answer) : (s.sendAnswer a).packages = s.packages := rfl
@[simp] theorem State.sendAnswer_counters (s : State) (a : Answer) : (s.sendAnswer a).counters = s.counters := rfl
@[simp] theorem State.sendAnswer_alerts (s : State) (a : Answer) : (s.sendAnswer a).alerts = s.alerts := rfl
@[simp] theorem State.sendAnswer_sup (s : State) (a : Answer) : (s.sendAnswer a).sup = s.sup := rfl
@[simp] theorem State.sendAnswer_freeIndex (s : State) (a : Answer) : (s.sendAnswer a).freeIndex = s.freeIndex := rfl

@[simp] theorem State.sendOutput_pending (s : State) (m : OutputMsg) : (s.sendOutput m).pending = s.pending := rfl
@[simp] theorem State.sendOutput_mode (s : State) (m : OutputMsg) : (s.sendOutput m).mode = s.mode := rfl
@[simp] theorem State.sendOutput_ref (s : State) (m : OutputMsg) : (s.sendOutput m).ref = s.ref := rfl
@[simp] theorem State.sendOutput_ports (s : State) (m : OutputMsg) : (s.sendOutput m).ports = s.ports := rfl
@[simp] theorem State.sendOutput_groups (s : State) (m : OutputMsg) : (s.sendOutput m).groups = s.groups := rfl
@[simp] theorem State.sendOutput_services (s : State) (m : OutputMsg) : (s.sendOutput m).services = s.services := rfl
@[simp] theorem State.sendOutput_silenceTimeout (s : State) (m : OutputMsg) :
    (s.sendOutput m).silenceTimeout = s.silenceTimeout := rfl
@[simp] theorem State.sendOutput_schedMode (s : State) (m : OutputMsg) :
    (s.sendOutput m).schedMode = s.schedMode := rfl
@[simp] theorem State.sendOutput_budget (s : State) (m : OutputMsg) : (s.sendOutput m).budget = s.budget := rfl
@[simp] theorem State.sendOutput_poolRegion (s : State) (m : OutputMsg) :
    (s.sendOutput m).poolRegion = s.poolRegion := rfl
@[simp] theorem State.sendOutput_layout (s : State) (m : OutputMsg) : (s.sendOutput m).layout = s.layout := rfl
@[simp] theorem State.sendOutput_roundRobin (s : State) (m : OutputMsg) :
    (s.sendOutput m).roundRobin = s.roundRobin := rfl
@[simp] theorem State.sendOutput_inserter (s : State) (m : OutputMsg) : (s.sendOutput m).inserter = s.inserter := rfl
@[simp] theorem State.sendOutput_busyCount (s : State) (m : OutputMsg) :
    (s.sendOutput m).busyCount = s.busyCount := rfl
@[simp] theorem State.sendOutput_events (s : State) (m : OutputMsg) : (s.sendOutput m).events = s.events := rfl
@[simp] theorem State.sendOutput_packages (s : State) (m : OutputMsg) : (s.sendOutput m).packages = s.packages := rfl
@[simp] theorem State.sendOutput_counters (s : State) (m : OutputMsg) : (s.sendOutput m).counters = s.counters := rfl
@[simp] theorem State.sendOutput_alerts (s : State) (m : OutputMsg) : (s.sendOutput m).alerts = s.alerts := rfl
@[simp] theorem State.sendOutput_sup (s : State) (m : OutputMsg) : (s.sendOutput m).sup = s.sup := rfl
@[simp] theorem State.sendOutput_freeIndex (s : State) (m : OutputMsg) :
    (s.sendOutput m).freeIndex = s.freeIndex := rfl

@[simp] theorem State.setAlert_pending (s : State) (a : Alert) (o : Option (Fin 8)) :
    (s.setAlert a o).pending = s.pending := rfl
@[simp] theorem State.setAlert_mode (s : State) (a : Alert) (o : Option (Fin 8)) :
    (s.setAlert a o).mode = s.mode := rfl
@[simp] theorem State.setAlert_ref (s : State) (a : Alert) (o : Option (Fin 8)) : (s.setAlert a o).ref = s.ref := rfl
@[simp] theorem State.setAlert_ports (s : State) (a : Alert) (o : Option (Fin 8)) :
    (s.setAlert a o).ports = s.ports := rfl
@[simp] theorem State.setAlert_groups (s : State) (a : Alert) (o : Option (Fin 8)) :
    (s.setAlert a o).groups = s.groups := rfl
@[simp] theorem State.setAlert_services (s : State) (a : Alert) (o : Option (Fin 8)) :
    (s.setAlert a o).services = s.services := rfl
@[simp] theorem State.setAlert_silenceTimeout (s : State) (a : Alert) (o : Option (Fin 8)) :
    (s.setAlert a o).silenceTimeout = s.silenceTimeout := rfl
@[simp] theorem State.setAlert_schedMode (s : State) (a : Alert) (o : Option (Fin 8)) :
    (s.setAlert a o).schedMode = s.schedMode := rfl
@[simp] theorem State.setAlert_budget (s : State) (a : Alert) (o : Option (Fin 8)) :
    (s.setAlert a o).budget = s.budget := rfl
@[simp] theorem State.setAlert_poolRegion (s : State) (a : Alert) (o : Option (Fin 8)) :
    (s.setAlert a o).poolRegion = s.poolRegion := rfl
@[simp] theorem State.setAlert_layout (s : State) (a : Alert) (o : Option (Fin 8)) :
    (s.setAlert a o).layout = s.layout := rfl
@[simp] theorem State.setAlert_roundRobin (s : State) (a : Alert) (o : Option (Fin 8)) :
    (s.setAlert a o).roundRobin = s.roundRobin := rfl
@[simp] theorem State.setAlert_inserter (s : State) (a : Alert) (o : Option (Fin 8)) :
    (s.setAlert a o).inserter = s.inserter := rfl
@[simp] theorem State.setAlert_busyCount (s : State) (a : Alert) (o : Option (Fin 8)) :
    (s.setAlert a o).busyCount = s.busyCount := rfl
@[simp] theorem State.setAlert_events (s : State) (a : Alert) (o : Option (Fin 8)) :
    (s.setAlert a o).events = s.events := rfl
@[simp] theorem State.setAlert_packages (s : State) (a : Alert) (o : Option (Fin 8)) :
    (s.setAlert a o).packages = s.packages := rfl
@[simp] theorem State.setAlert_counters (s : State) (a : Alert) (o : Option (Fin 8)) :
    (s.setAlert a o).counters = s.counters := rfl
@[simp] theorem State.setAlert_sup (s : State) (a : Alert) (o : Option (Fin 8)) : (s.setAlert a o).sup = s.sup := rfl
@[simp] theorem State.setAlert_sent (s : State) (a : Alert) (o : Option (Fin 8)) :
    (s.setAlert a o).sent = s.sent := rfl
@[simp] theorem State.setAlert_freeIndex (s : State) (a : Alert) (o : Option (Fin 8)) :
    (s.setAlert a o).freeIndex = s.freeIndex := rfl

@[simp] theorem State.setPort_ports (s : State) (p : Port) (x : PortState) :
    (s.setPort p x).ports = s.ports.set p x := rfl
@[simp] theorem State.setGroup_groups (s : State) (g : Group) (x : GroupState) :
    (s.setGroup g x).groups = s.groups.set g x := rfl
@[simp] theorem State.setService_services (s : State) (k : Service) (x : ServiceState) :
    (s.setService k x).services = s.services.set k x := rfl
@[simp] theorem State.setPackages_packages (s : State) (t : List (Option PackageRecord)) :
    (s.setPackages t).packages = t := rfl
@[simp] theorem State.setAlert_alerts (s : State) (a : Alert) (o : Option (Fin 8)) :
    (s.setAlert a o).alerts = s.alerts.set a.index ((s.alerts.get a.index).set o) := rfl

@[simp] theorem State.port_setPort (s : State) (p q : Port) (x : PortState) :
    (s.setPort p x).port q = if q = p then x else s.port q := by simp [State.port]
@[simp] theorem State.group_setGroup (s : State) (g h : Group) (x : GroupState) :
    (s.setGroup g x).group h = if h = g then x else s.group h := by simp [State.group]
@[simp] theorem State.service_setService (s : State) (k l : Service) (x : ServiceState) :
    (s.setService k x).service l = if l = k then x else s.service l := by simp [State.service]
@[simp] theorem State.setPort_port (s : State) (p : Port) : s.setPort p (s.port p) = s := by
  simp [State.setPort, State.port]
@[simp] theorem State.setGroup_group (s : State) (g : Group) : s.setGroup g (s.group g) = s := by
  simp [State.setGroup, State.group]
@[simp] theorem State.setService_service (s : State) (k : Service) : s.setService k (s.service k) = s := by
  simp [State.setService, State.service]
@[simp] theorem State.setPort_setPort (s : State) (p : Port) (x y : PortState) :
    (s.setPort p x).setPort p y = s.setPort p y := by simp [State.setPort]
@[simp] theorem State.setGroup_setGroup (s : State) (g : Group) (x y : GroupState) :
    (s.setGroup g x).setGroup g y = s.setGroup g y := by simp [State.setGroup]
@[simp] theorem State.setService_setService (s : State) (k : Service) (x y : ServiceState) :
    (s.setService k x).setService k y = s.setService k y := by simp [State.setService]

@[simp] theorem State.setPort_group (s : State) (p : Port) (x : PortState) (h : Group) :
    (s.setPort p x).group h = s.group h := rfl
@[simp] theorem State.setPort_service (s : State) (p : Port) (x : PortState) (l : Service) :
    (s.setPort p x).service l = s.service l := rfl
@[simp] theorem State.setPort_now (s : State) (p : Port) (x : PortState) : (s.setPort p x).now = s.now := rfl
@[simp] theorem State.setPort_running (s : State) (p : Port) (x : PortState) :
    (s.setPort p x).running = s.running := rfl
@[simp] theorem State.setGroup_port (s : State) (g : Group) (x : GroupState) (q : Port) :
    (s.setGroup g x).port q = s.port q := rfl
@[simp] theorem State.setGroup_service (s : State) (g : Group) (x : GroupState) (l : Service) :
    (s.setGroup g x).service l = s.service l := rfl
@[simp] theorem State.setGroup_now (s : State) (g : Group) (x : GroupState) : (s.setGroup g x).now = s.now := rfl
@[simp] theorem State.setGroup_running (s : State) (g : Group) (x : GroupState) :
    (s.setGroup g x).running = s.running := rfl
@[simp] theorem State.setService_port (s : State) (k : Service) (x : ServiceState) (q : Port) :
    (s.setService k x).port q = s.port q := rfl
@[simp] theorem State.setService_group (s : State) (k : Service) (x : ServiceState) (h : Group) :
    (s.setService k x).group h = s.group h := rfl
@[simp] theorem State.setService_now (s : State) (k : Service) (x : ServiceState) :
    (s.setService k x).now = s.now := rfl
@[simp] theorem State.setService_running (s : State) (k : Service) (x : ServiceState) :
    (s.setService k x).running = s.running := rfl
@[simp] theorem State.setPackages_port (s : State) (t : List (Option PackageRecord)) (q : Port) :
    (s.setPackages t).port q = s.port q := rfl
@[simp] theorem State.setPackages_group (s : State) (t : List (Option PackageRecord)) (h : Group) :
    (s.setPackages t).group h = s.group h := rfl
@[simp] theorem State.setPackages_service (s : State) (t : List (Option PackageRecord)) (l : Service) :
    (s.setPackages t).service l = s.service l := rfl
@[simp] theorem State.setPackages_now (s : State) (t : List (Option PackageRecord)) :
    (s.setPackages t).now = s.now := rfl
@[simp] theorem State.setPackages_running (s : State) (t : List (Option PackageRecord)) :
    (s.setPackages t).running = s.running := rfl
@[simp] theorem State.sendPort_port (s : State) (p : Port) (m : PortMsg) (q : Port) :
    (s.sendPort p m).port q = s.port q := rfl
@[simp] theorem State.sendPort_group (s : State) (p : Port) (m : PortMsg) (h : Group) :
    (s.sendPort p m).group h = s.group h := rfl
@[simp] theorem State.sendPort_service (s : State) (p : Port) (m : PortMsg) (l : Service) :
    (s.sendPort p m).service l = s.service l := rfl
@[simp] theorem State.sendPort_now (s : State) (p : Port) (m : PortMsg) : (s.sendPort p m).now = s.now := rfl
@[simp] theorem State.sendPort_running (s : State) (p : Port) (m : PortMsg) :
    (s.sendPort p m).running = s.running := rfl
@[simp] theorem State.sendAnswer_port (s : State) (a : Answer) (q : Port) : (s.sendAnswer a).port q = s.port q := rfl
@[simp] theorem State.sendAnswer_group (s : State) (a : Answer) (h : Group) :
    (s.sendAnswer a).group h = s.group h := rfl
@[simp] theorem State.sendAnswer_service (s : State) (a : Answer) (l : Service) :
    (s.sendAnswer a).service l = s.service l := rfl
@[simp] theorem State.sendAnswer_now (s : State) (a : Answer) : (s.sendAnswer a).now = s.now := rfl
@[simp] theorem State.sendAnswer_running (s : State) (a : Answer) : (s.sendAnswer a).running = s.running := rfl
@[simp] theorem State.sendOutput_port (s : State) (m : OutputMsg) (q : Port) :
    (s.sendOutput m).port q = s.port q := rfl
@[simp] theorem State.sendOutput_group (s : State) (m : OutputMsg) (h : Group) :
    (s.sendOutput m).group h = s.group h := rfl
@[simp] theorem State.sendOutput_service (s : State) (m : OutputMsg) (l : Service) :
    (s.sendOutput m).service l = s.service l := rfl
@[simp] theorem State.sendOutput_now (s : State) (m : OutputMsg) : (s.sendOutput m).now = s.now := rfl
@[simp] theorem State.sendOutput_running (s : State) (m : OutputMsg) : (s.sendOutput m).running = s.running := rfl
@[simp] theorem State.setAlert_port (s : State) (a : Alert) (o : Option (Fin 8)) (q : Port) :
    (s.setAlert a o).port q = s.port q := rfl
@[simp] theorem State.setAlert_group (s : State) (a : Alert) (o : Option (Fin 8)) (h : Group) :
    (s.setAlert a o).group h = s.group h := rfl
@[simp] theorem State.setAlert_service (s : State) (a : Alert) (o : Option (Fin 8)) (l : Service) :
    (s.setAlert a o).service l = s.service l := rfl
@[simp] theorem State.setAlert_now (s : State) (a : Alert) (o : Option (Fin 8)) : (s.setAlert a o).now = s.now := rfl
@[simp] theorem State.setAlert_running (s : State) (a : Alert) (o : Option (Fin 8)) :
    (s.setAlert a o).running = s.running := rfl

@[simp] theorem State.sendPort_sent (s : State) (p : Port) (m : PortMsg) :
    (s.sendPort p m).sent = { s.sent with ports := s.sent.ports.set p (s.sent.ports.get p ++ [m]) } := rfl
@[simp] theorem State.sendAnswer_sent (s : State) (a : Answer) :
    (s.sendAnswer a).sent = { s.sent with automation := s.sent.automation ++ [a] } := rfl
@[simp] theorem State.sendOutput_sent (s : State) (m : OutputMsg) :
    (s.sendOutput m).sent = { s.sent with output := s.sent.output ++ [m] } := rfl

end Sys2Proof.Machine
end

