-- ==== Sys2Proof/Laws/Frames.lean ====
section
/-! SUPPORT. One lemma for each shared operation: the fields it may change; every other field keeps its value. The simp
lemma beside it drops the operation from a frame that allows those fields. -/

namespace Sys2Proof.Machine

theorem State.agree_refl (s : State) (f : Field) : s.agree s f := by cases f <;> rfl

theorem SameBut.refl (F : List Field) (s : State) : SameBut F s s := fun f _ => s.agree_refl f

@[simp] theorem sameBut_self (F : List Field) (s : State) : SameBut F s s ↔ True := iff_of_true (SameBut.refl F s) trivial

theorem SameBut.trans {F : List Field} {s t u : State} (h : SameBut F s t) (k : SameBut F t u) : SameBut F s u := by
  intro f hf
  have a := h f hf
  have b := k f hf
  cases f <;> exact Eq.trans b a

theorem SameBut.symm {F : List Field} {s t : State} (h : SameBut F s t) : SameBut F t s := by
  intro f hf
  have a := h f hf
  cases f <;> exact Eq.symm a

theorem SameBut.mono {F G : List Field} {s t : State} (h : SameBut F s t) (hG : F ⊆ G) : SameBut G s t :=
  fun f hf => h f fun hc => hf (hG hc)

theorem SameBut.drop {F G : List Field} {s t u : State} (h : SameBut G t u) (hG : G ⊆ F) :
    SameBut F s u ↔ SameBut F s t :=
  ⟨fun a => a.trans (h.mono hG).symm, fun a => a.trans (h.mono hG)⟩

theorem SameBut.foldl {α : Type} {F : List Field} {f : State → α → State} (h : ∀ t x, SameBut F t (f t x))
    (l : List α) (s : State) : SameBut F s (l.foldl f s) := by
  induction l generalizing s with
  | nil => exact SameBut.refl F s
  | cons x l ih => exact (h s x).trans (ih (f s x))

theorem SameBut.trans_foldl {α : Type} {F : List Field} {f : State → α → State} {s t : State} (a : SameBut F s t)
    (h : ∀ t x, SameBut F t (f t x)) (l : List α) : SameBut F s (l.foldl f t) := a.trans (SameBut.foldl h l t)

/-! ### Flags and alerts -/

theorem setAlert_frame (s : State) (a : Alert) (o : Option (Fin 8)) :
    SameBut [.alerts] s (s.setAlert a o) := by
  intro f hf
  cases f <;> first | rfl | (exfalso; simp at hf; done)

@[simp] theorem sameBut_setAlert {F : List Field} {s t : State} (a : Alert) (o : Option (Fin 8))
    (hF : [.alerts] ⊆ F) : SameBut F s (t.setAlert a o) ↔ SameBut F s t := SameBut.drop (setAlert_frame t _ _) hF

theorem addTo_frame (s : State) (i : Fin 8) (n : Nat) :
    SameBut [.counters, .alerts] s (s.addTo i n) := by
  intro f hf
  unfold State.addTo
  cases f <;> first | (exfalso; simp at hf; done) | (dsimp only [State.agree]; split <;> rfl)

@[simp] theorem sameBut_addTo {F : List Field} {s t : State} (i : Fin 8) (n : Nat)
    (hF : [.counters, .alerts] ⊆ F) : SameBut F s (t.addTo i n) ↔ SameBut F s t := SameBut.drop (addTo_frame t _ _) hF

theorem offer_frame (s : State) (o : Occurrence) (i : Fin 8) :
    SameBut [.counters, .alerts] s (State.offer o s i) := by
  unfold State.offer
  try dsimp only
  repeat' split
  all_goals simp

@[simp] theorem sameBut_offer {F : List Field} {s t : State} (o : Occurrence) (i : Fin 8)
    (hF : [.counters, .alerts] ⊆ F) :
      SameBut F s (State.offer o t i) ↔ SameBut F s t := SameBut.drop (offer_frame t _ _) hF

theorem raise_frame (s : State) (o : Occurrence) :
    SameBut [.counters, .alerts] s (s.raise o) := by
  unfold State.raise
  refine SameBut.trans_foldl ?_ (fun t x => ?_) _ <;> simp

@[simp] theorem sameBut_raise {F : List Field} {s t : State} (o : Occurrence)
    (hF : [.counters, .alerts] ⊆ F) : SameBut F s (t.raise o) ↔ SameBut F s t := SameBut.drop (raise_frame t _) hF

theorem raiseIf_frame (s : State) (b : Bool) (o : Occurrence) :
    SameBut [.counters, .alerts] s (s.raiseIf b o) := by
  unfold State.raiseIf
  try dsimp only
  repeat' split
  all_goals simp

@[simp] theorem sameBut_raiseIf {F : List Field} {s t : State} (b : Bool) (o : Occurrence)
    (hF : [.counters, .alerts] ⊆ F) :
      SameBut F s (t.raiseIf b o) ↔ SameBut F s t := SameBut.drop (raiseIf_frame t _ _) hF

theorem raiseTimes_frame (s : State) (o : Occurrence) (n : Nat) :
    SameBut [.counters, .alerts] s (s.raiseTimes o n) := by
  induction n generalizing s with
  | zero => exact SameBut.refl _ s
  | succ n ih => exact SameBut.trans (raise_frame s o) (ih _)

@[simp] theorem sameBut_raiseTimes {F : List Field} {s t : State} (o : Occurrence) (n : Nat)
    (hF : [.counters, .alerts] ⊆ F) :
      SameBut F s (t.raiseTimes o n) ↔ SameBut F s t := SameBut.drop (raiseTimes_frame t _ _) hF

theorem sampleCounter_frame (s : State) (i : Fin 8) :
    SameBut [.counters, .alerts] s (s.sampleCounter i) := by
  unfold State.sampleCounter
  refine SameBut.trans_foldl ?_ (fun t x => ?_) _ <;> simp

@[simp] theorem sameBut_sampleCounter {F : List Field} {s t : State} (i : Fin 8)
    (hF : [.counters, .alerts] ⊆ F) :
      SameBut F s (t.sampleCounter i) ↔ SameBut F s t := SameBut.drop (sampleCounter_frame t _) hF

theorem sampleLevels_frame (s : State) :
    SameBut [.counters, .alerts] s s.sampleLevels := by
  unfold State.sampleLevels
  refine SameBut.trans_foldl ?_ (fun t x => ?_) _ <;> simp

@[simp] theorem sameBut_sampleLevels {F : List Field} {s t : State}
    (hF : [.counters, .alerts] ⊆ F) : SameBut F s t.sampleLevels ↔ SameBut F s t := SameBut.drop (sampleLevels_frame t) hF

/-! ### Named operations -/

theorem setPort_frame (s : State) (p : Port) (x : PortState) :
    SameBut [.ports] s (s.setPort p x) := by
  intro f hf
  cases f <;> first | rfl | (exfalso; simp at hf; done)

@[simp] theorem sameBut_setPort {F : List Field} {s t : State} (p : Port) (x : PortState)
    (hF : [.ports] ⊆ F) : SameBut F s (t.setPort p x) ↔ SameBut F s t := SameBut.drop (setPort_frame t _ _) hF

theorem setGroup_frame (s : State) (g : Group) (x : GroupState) :
    SameBut [.groups] s (s.setGroup g x) := by
  intro f hf
  cases f <;> first | rfl | (exfalso; simp at hf; done)

@[simp] theorem sameBut_setGroup {F : List Field} {s t : State} (g : Group) (x : GroupState)
    (hF : [.groups] ⊆ F) : SameBut F s (t.setGroup g x) ↔ SameBut F s t := SameBut.drop (setGroup_frame t _ _) hF

theorem setService_frame (s : State) (k : Service) (x : ServiceState) :
    SameBut [.services] s (s.setService k x) := by
  intro f hf
  cases f <;> first | rfl | (exfalso; simp at hf; done)

@[simp] theorem sameBut_setService {F : List Field} {s t : State} (k : Service) (x : ServiceState)
    (hF : [.services] ⊆ F) :
      SameBut F s (t.setService k x) ↔ SameBut F s t := SameBut.drop (setService_frame t _ _) hF

theorem setPackages_frame (s : State) (l : List (Option PackageRecord)) :
    SameBut [.packages] s (s.setPackages l) := by
  intro f hf
  cases f <;> first | rfl | (exfalso; simp at hf; done)

@[simp] theorem sameBut_setPackages {F : List Field} {s t : State} (l : List (Option PackageRecord))
    (hF : [.packages] ⊆ F) : SameBut F s (t.setPackages l) ↔ SameBut F s t := SameBut.drop (setPackages_frame t _) hF

theorem sendPort_frame (s : State) (p : Port) (m : PortMsg) :
    SameBut [.sent] s (s.sendPort p m) := by
  intro f hf
  cases f <;> first | rfl | (exfalso; simp at hf; done)

@[simp] theorem sameBut_sendPort {F : List Field} {s t : State} (p : Port) (m : PortMsg)
    (hF : [.sent] ⊆ F) : SameBut F s (t.sendPort p m) ↔ SameBut F s t := SameBut.drop (sendPort_frame t _ _) hF

theorem sendAnswer_frame (s : State) (a : Answer) :
    SameBut [.sent] s (s.sendAnswer a) := by
  intro f hf
  cases f <;> first | rfl | (exfalso; simp at hf; done)

@[simp] theorem sameBut_sendAnswer {F : List Field} {s t : State} (a : Answer)
    (hF : [.sent] ⊆ F) : SameBut F s (t.sendAnswer a) ↔ SameBut F s t := SameBut.drop (sendAnswer_frame t _) hF

theorem sendOutput_frame (s : State) (m : OutputMsg) :
    SameBut [.sent] s (s.sendOutput m) := by
  intro f hf
  cases f <;> first | rfl | (exfalso; simp at hf; done)

@[simp] theorem sameBut_sendOutput {F : List Field} {s t : State} (m : OutputMsg)
    (hF : [.sent] ⊆ F) : SameBut F s (t.sendOutput m) ↔ SameBut F s t := SameBut.drop (sendOutput_frame t _) hF

theorem enterLink_frame (s : State) (p : Port) (l : LinkState) :
    SameBut [.ports, .sent] s (s.enterLink p l) := by
  unfold State.enterLink
  try dsimp only
  all_goals simp

@[simp] theorem sameBut_enterLink {F : List Field} {s t : State} (p : Port) (l : LinkState)
    (hF : [.ports, .sent] ⊆ F) :
      SameBut F s (t.enterLink p l) ↔ SameBut F s t := SameBut.drop (enterLink_frame t _ _) hF

theorem mapPlacements_frame (s : State) (f : Placement → Placement) :
    SameBut [.ports] s (s.mapPlacements f) := by
  intro f hf
  cases f <;> first | rfl | (exfalso; simp at hf; done)

@[simp] theorem sameBut_mapPlacements {F : List Field} {s t : State} (f : Placement → Placement)
    (hF : [.ports] ⊆ F) : SameBut F s (t.mapPlacements f) ↔ SameBut F s t := SameBut.drop (mapPlacements_frame t _) hF

theorem markCue_frame (s : State) (k : Service) (id : CueId) (st : PlacementState) :
    SameBut [.ports] s (s.markCue k id st) := by
  unfold State.markCue
  try dsimp only
  all_goals simp

@[simp] theorem sameBut_markCue {F : List Field} {s t : State} (k : Service) (id : CueId) (st : PlacementState)
    (hF : [.ports] ⊆ F) : SameBut F s (t.markCue k id st) ↔ SameBut F s t := SameBut.drop (markCue_frame t _ _ _) hF

/-! ### Cues and timing -/

theorem renumberCue_frame (s : State) (k : Service) (b c : CueBody) (i : Nat) :
    SameBut [.ports] s (s.renumberCue k b c i) := by
  unfold State.renumberCue
  try dsimp only
  all_goals simp

@[simp] theorem sameBut_renumberCue {F : List Field} {s t : State} (k : Service) (b c : CueBody) (i : Nat)
    (hF : [.ports] ⊆ F) :
      SameBut F s (t.renumberCue k b c i) ↔ SameBut F s t := SameBut.drop (renumberCue_frame t _ _ _ _) hF

theorem removePlaced_frame (s : State) (pl : Placement) :
    SameBut [.ports, .services] s (s.removePlaced pl) := by
  unfold State.removePlaced
  try dsimp only
  repeat' split
  all_goals simp

@[simp] theorem sameBut_removePlaced {F : List Field} {s t : State} (pl : Placement)
    (hF : [.ports, .services] ⊆ F) :
      SameBut F s (t.removePlaced pl) ↔ SameBut F s t := SameBut.drop (removePlaced_frame t _) hF

theorem insertCue_frame (s : State) (k : Service) (c : CueRecord) :
    SameBut [.ports, .services, .counters, .alerts] s (s.insertCue k c) := by
  unfold State.insertCue
  try dsimp only
  repeat' split
  all_goals simp

@[simp] theorem sameBut_insertCue {F : List Field} {s t : State} (k : Service) (c : CueRecord)
    (hF : [.ports, .services, .counters, .alerts] ⊆ F) :
      SameBut F s (t.insertCue k c) ↔ SameBut F s t := SameBut.drop (insertCue_frame t _ _) hF

theorem settleTimed_frame (s : State) (k : Service) (x : Timed) :
    SameBut [.ports, .services, .counters, .alerts] s (s.settleTimed k x) := by
  unfold State.settleTimed
  try dsimp only
  repeat' split
  all_goals simp

@[simp] theorem sameBut_settleTimed {F : List Field} {s t : State} (k : Service) (x : Timed)
    (hF : [.ports, .services, .counters, .alerts] ⊆ F) :
      SameBut F s (t.settleTimed k x) ↔ SameBut F s t := SameBut.drop (settleTimed_frame t _ _) hF

theorem closeCue_frame (s : State) (k : Service) :
    SameBut [.ports, .services, .counters, .alerts] s (s.closeCue k) := by
  unfold State.closeCue
  try dsimp only
  repeat' split
  all_goals simp

@[simp] theorem sameBut_closeCue {F : List Field} {s t : State} (k : Service)
    (hF : [.ports, .services, .counters, .alerts] ⊆ F) :
      SameBut F s (t.closeCue k) ↔ SameBut F s t := SameBut.drop (closeCue_frame t _) hF

theorem closeRouted_frame (s : State) (g : Group) :
    SameBut [.ports, .services, .counters, .alerts] s (s.closeRouted g) := by
  unfold State.closeRouted
  refine SameBut.trans_foldl ?_ (fun t x => ?_) _
  · simp
  · split <;> simp

@[simp] theorem sameBut_closeRouted {F : List Field} {s t : State} (g : Group)
    (hF : [.ports, .services, .counters, .alerts] ⊆ F) :
      SameBut F s (t.closeRouted g) ↔ SameBut F s t := SameBut.drop (closeRouted_frame t _) hF

theorem changeRoute_frame (s : State) (k : Service) (g : Option Group) :
    SameBut [.ports, .services, .counters, .alerts] s (s.changeRoute k g) := by
  unfold State.changeRoute
  try dsimp only
  repeat' split
  all_goals simp

@[simp] theorem sameBut_changeRoute {F : List Field} {s t : State} (k : Service) (g : Option Group)
    (hF : [.ports, .services, .counters, .alerts] ⊆ F) :
      SameBut F s (t.changeRoute k g) ↔ SameBut F s t := SameBut.drop (changeRoute_frame t _ _) hF

/-! ### Assembly -/

theorem openBody_frame (s : State) (k : Service) (b : Bool) :
    SameBut [.services] s (s.openBody k b).1 := by
  unfold State.openBody
  try dsimp only
  all_goals simp

@[simp] theorem sameBut_openBody {F : List Field} {s t : State} (k : Service) (b : Bool)
    (hF : [.services] ⊆ F) : SameBut F s (t.openBody k b).1 ↔ SameBut F s t := SameBut.drop (openBody_frame t _ _) hF

theorem openOrNew_frame (s : State) (k : Service) (b : Bool) :
    SameBut [.services] s (s.openOrNew k b).1 := by
  unfold State.openOrNew
  try dsimp only
  repeat' split
  all_goals simp

@[simp] theorem sameBut_openOrNew {F : List Field} {s t : State} (k : Service) (b : Bool)
    (hF : [.services] ⊆ F) :
      SameBut F s (t.openOrNew k b).1 ↔ SameBut F s t := SameBut.drop (openOrNew_frame t _ _) hF

theorem putWord_frame (s : State) (k : Service) (b : CueBody) (a : AdmittedWord) :
    SameBut [.ports, .services, .counters, .alerts] s (s.putWord k b a).1 := by
  unfold State.putWord
  try dsimp only
  repeat' split
  all_goals simp

@[simp] theorem sameBut_putWord {F : List Field} {s t : State} (k : Service) (b : CueBody) (a : AdmittedWord)
    (hF : [.ports, .services, .counters, .alerts] ⊆ F) :
      SameBut F s (t.putWord k b a).1 ↔ SameBut F s t := SameBut.drop (putWord_frame t _ _ _) hF

theorem placeIn_frame (s : State) (k : Service) (a : AdmittedWord) :
    SameBut [.ports, .services, .counters, .alerts] s (s.placeIn k a).1 := by
  unfold State.placeIn
  dsimp only
  split <;> split <;> simp

@[simp] theorem sameBut_placeIn {F : List Field} {s t : State} (k : Service) (a : AdmittedWord)
    (hF : [.ports, .services, .counters, .alerts] ⊆ F) :
      SameBut F s (t.placeIn k a).1 ↔ SameBut F s t := SameBut.drop (placeIn_frame t _ _) hF

theorem placeAll_frame (s : State) (a : AdmittedWord) (ks : List Service) :
    SameBut [.ports, .services, .counters, .alerts] s (State.placeAll a ks s).1 := by
  induction ks generalizing s with
  | nil => simp [State.placeAll]
  | cons k ks ih => exact SameBut.trans (placeIn_frame s k a) (ih _)

@[simp] theorem sameBut_placeAll {F : List Field} {s t : State} (a : AdmittedWord) (ks : List Service)
    (hF : [.ports, .services, .counters, .alerts] ⊆ F) :
      SameBut F s (State.placeAll a ks t).1 ↔ SameBut F s t := SameBut.drop (placeAll_frame t _ _) hF

theorem joinHistory_frame (s : State) (p : Port) (e : HistoryEntry) :
    SameBut [.ports] s (s.joinHistory p e) := by
  unfold State.joinHistory
  try dsimp only
  all_goals simp

@[simp] theorem sameBut_joinHistory {F : List Field} {s t : State} (p : Port) (e : HistoryEntry)
    (hF : [.ports] ⊆ F) : SameBut F s (t.joinHistory p e) ↔ SameBut F s t := SameBut.drop (joinHistory_frame t _ _) hF

theorem assemble_frame (s : State) (p : Port) (a : AdmittedWord) (ks : List Service) :
    SameBut [.ports, .services, .counters, .alerts] s (s.assemble p a ks) := by
  unfold State.assemble
  try dsimp only
  repeat' split
  all_goals simp

@[simp] theorem sameBut_assemble {F : List Field} {s t : State} (p : Port) (a : AdmittedWord) (ks : List Service)
    (hF : [.ports, .services, .counters, .alerts] ⊆ F) :
      SameBut F s (t.assemble p a ks) ↔ SameBut F s t := SameBut.drop (assemble_frame t _ _ _) hF

theorem withdraw_frame (s : State) (e : HistoryEntry) :
    SameBut [.ports, .services] s (s.withdraw e) := by
  unfold State.withdraw
  refine SameBut.trans_foldl ?_ (fun t x => ?_) _
  · simp
  · split <;> simp

@[simp] theorem sameBut_withdraw {F : List Field} {s t : State} (e : HistoryEntry)
    (hF : [.ports, .services] ⊆ F) :
      SameBut F s (t.withdraw e) ↔ SameBut F s t := SameBut.drop (withdraw_frame t _) hF

theorem retractLoop_frame (s : State) (p : Port) (k r : Nat) :
    SameBut [.ports, .services] s (State.retractLoop p k r s).state := by
  induction k generalizing r s with
  | zero => simp [State.retractLoop]
  | succ k ih =>
    unfold State.retractLoop
    split
    · simp
    · split
      · simp
      · exact SameBut.trans (by simp) (ih _ _)

@[simp] theorem sameBut_retractLoop {F : List Field} {s t : State} (p : Port) (k r : Nat)
    (hF : [.ports, .services] ⊆ F) :
      SameBut F s (State.retractLoop p k r t).state ↔ SameBut F s t := SameBut.drop (retractLoop_frame t _ _ _) hF

theorem retractWords_frame (s : State) (p : Port) (k : Nat) :
    SameBut [.ports, .services, .sent, .counters, .alerts] s (s.retractWords p k) := by
  unfold State.retractWords
  try dsimp only
  all_goals simp

@[simp] theorem sameBut_retractWords {F : List Field} {s t : State} (p : Port) (k : Nat)
    (hF : [.ports, .services, .sent, .counters, .alerts] ⊆ F) :
      SameBut F s (t.retractWords p k) ↔ SameBut F s t := SameBut.drop (retractWords_frame t _ _) hF

/-! ### Relay -/

theorem clearHistory_frame (s : State) (p : Port) :
    SameBut [.ports] s (s.clearHistory p) := by
  unfold State.clearHistory
  try dsimp only
  all_goals simp

@[simp] theorem sameBut_clearHistory {F : List Field} {s t : State} (p : Port)
    (hF : [.ports] ⊆ F) : SameBut F s (t.clearHistory p) ↔ SameBut F s t := SameBut.drop (clearHistory_frame t _) hF

theorem answerGranted_frame (s : State) (p : Port) (c : Smc) :
    SameBut [.sent] s (s.answerGranted p c) := by
  unfold State.answerGranted
  try dsimp only
  all_goals simp

@[simp] theorem sameBut_answerGranted {F : List Field} {s t : State} (p : Port) (c : Smc)
    (hF : [.sent] ⊆ F) :
      SameBut F s (t.answerGranted p c) ↔ SameBut F s t := SameBut.drop (answerGranted_frame t _ _) hF

theorem grantIdle_frame (s : State) (p : Port) (g : Group) :
    SameBut [.groups, .ports, .sent] s (s.grantIdle p g) := by
  unfold State.grantIdle
  try dsimp only
  all_goals simp

@[simp] theorem sameBut_grantIdle {F : List Field} {s t : State} (p : Port) (g : Group)
    (hF : [.groups, .ports, .sent] ⊆ F) :
      SameBut F s (t.grantIdle p g) ↔ SameBut F s t := SameBut.drop (grantIdle_frame t _ _) hF

theorem beginHandover_frame (s : State) (p q : Port) (g : Group) :
    SameBut [.groups, .ports, .sent] s (s.beginHandover p q g) := by
  unfold State.beginHandover
  try dsimp only
  repeat' split
  all_goals simp

@[simp] theorem sameBut_beginHandover {F : List Field} {s t : State} (p q : Port) (g : Group)
    (hF : [.groups, .ports, .sent] ⊆ F) :
      SameBut F s (t.beginHandover p q g) ↔ SameBut F s t := SameBut.drop (beginHandover_frame t _ _ _) hF

theorem decideTake_frame (s : State) (p : Port) :
    SameBut [.groups, .ports, .sent] s (s.decideTake p) := by
  unfold State.decideTake
  try dsimp only
  repeat' split
  all_goals simp

@[simp] theorem sameBut_decideTake {F : List Field} {s t : State} (p : Port)
    (hF : [.groups, .ports, .sent] ⊆ F) :
      SameBut F s (t.decideTake p) ↔ SameBut F s t := SameBut.drop (decideTake_frame t _) hF

theorem completeHandover_frame (s : State) (g : Group) (b : Bool) :
    SameBut [.groups, .ports, .sent, .counters, .alerts] s (s.completeHandover g b) := by
  unfold State.completeHandover
  try dsimp only
  repeat' split
  all_goals simp

@[simp] theorem sameBut_completeHandover {F : List Field} {s t : State} (g : Group) (b : Bool)
    (hF : [.groups, .ports, .sent, .counters, .alerts] ⊆ F) :
      SameBut F s (t.completeHandover g b) ↔ SameBut F s t := SameBut.drop (completeHandover_frame t _ _) hF

theorem abortHandover_frame (s : State) (g : Group) :
    SameBut [.groups, .ports, .sent] s (s.abortHandover g) := by
  unfold State.abortHandover
  try dsimp only
  repeat' split
  all_goals simp

@[simp] theorem sameBut_abortHandover {F : List Field} {s t : State} (g : Group)
    (hF : [.groups, .ports, .sent] ⊆ F) :
      SameBut F s (t.abortHandover g) ↔ SameBut F s t := SameBut.drop (abortHandover_frame t _) hF

theorem releaseOnAir_frame (s : State) (p : Port) (g : Group) :
    SameBut [.ports, .groups, .services, .sent, .counters, .alerts] s (s.releaseOnAir p g) := by
  unfold State.releaseOnAir
  try dsimp only
  repeat' split
  all_goals simp

@[simp] theorem sameBut_releaseOnAir {F : List Field} {s t : State} (p : Port) (g : Group)
    (hF : [.ports, .groups, .services, .sent, .counters, .alerts] ⊆ F) :
      SameBut F s (t.releaseOnAir p g) ↔ SameBut F s t := SameBut.drop (releaseOnAir_frame t _ _) hF

theorem releaseYielding_frame (s : State) (p : Port) (g : Group) :
    SameBut [.ports, .groups, .services, .sent, .counters, .alerts] s (s.releaseYielding p g) := by
  unfold State.releaseYielding
  try dsimp only
  repeat' split
  all_goals simp

@[simp] theorem sameBut_releaseYielding {F : List Field} {s t : State} (p : Port) (g : Group)
    (hF : [.ports, .groups, .services, .sent, .counters, .alerts] ⊆ F) :
      SameBut F s (t.releaseYielding p g) ↔ SameBut F s t := SameBut.drop (releaseYielding_frame t _ _) hF

theorem decideRelease_frame (s : State) (p : Port) :
    SameBut [.ports, .groups, .services, .sent, .counters, .alerts] s (s.decideRelease p) := by
  unfold State.decideRelease
  try dsimp only
  repeat' split
  all_goals simp

@[simp] theorem sameBut_decideRelease {F : List Field} {s t : State} (p : Port)
    (hF : [.ports, .groups, .services, .sent, .counters, .alerts] ⊆ F) :
      SameBut F s (t.decideRelease p) ↔ SameBut F s t := SameBut.drop (decideRelease_frame t _) hF

theorem loseOnAir_frame (s : State) (g : Group) (h : Option Smc) :
    SameBut [.ports, .groups, .services, .sent, .counters, .alerts] s (s.loseOnAir g h) := by
  unfold State.loseOnAir
  try dsimp only
  repeat' split
  all_goals simp

@[simp] theorem sameBut_loseOnAir {F : List Field} {s t : State} (g : Group) (h : Option Smc)
    (hF : [.ports, .groups, .services, .sent, .counters, .alerts] ⊆ F) :
      SameBut F s (t.loseOnAir g h) ↔ SameBut F s t := SameBut.drop (loseOnAir_frame t _ _) hF

theorem relayLoss_frame (s : State) (p : Port) :
    SameBut [.ports, .groups, .services, .sent, .counters, .alerts] s (s.relayLoss p) := by
  unfold State.relayLoss
  try dsimp only
  repeat' split
  all_goals simp

@[simp] theorem sameBut_relayLoss {F : List Field} {s t : State} (p : Port)
    (hF : [.ports, .groups, .services, .sent, .counters, .alerts] ⊆ F) :
      SameBut F s (t.relayLoss p) ↔ SameBut F s t := SameBut.drop (relayLoss_frame t _) hF

theorem admitEvent_frame (s : State) (p : Port) (e : Smc) (k : Service) :
    SameBut [.counters, .alerts] s (State.admitEvent p e s k) := by
  unfold State.admitEvent
  try dsimp only
  repeat' split
  all_goals simp

@[simp] theorem sameBut_admitEvent {F : List Field} {s t : State} (p : Port) (e : Smc) (k : Service)
    (hF : [.counters, .alerts] ⊆ F) :
      SameBut F s (State.admitEvent p e t k) ↔ SameBut F s t := SameBut.drop (admitEvent_frame t _ _ _) hF

theorem fanOut_frame (s : State) (p : Port) (g : Group) (a : AdmittedWord) :
    SameBut [.ports, .services, .counters, .alerts] s (s.fanOut p g a) := by
  unfold State.fanOut
  split
  · simp
  · rw [SameBut.drop (assemble_frame _ _ _ _) (by simp)]
    exact SameBut.foldl (fun t x => by simp) _ _

@[simp] theorem sameBut_fanOut {F : List Field} {s t : State} (p : Port) (g : Group) (a : AdmittedWord)
    (hF : [.ports, .services, .counters, .alerts] ⊆ F) :
      SameBut F s (t.fanOut p g a) ↔ SameBut F s t := SameBut.drop (fanOut_frame t _ _ _) hF

theorem staleEvent_frame (s : State) (p : Port) (w : WordRecord) :
    SameBut [.counters, .alerts] s (s.staleEvent p w) := by
  unfold State.staleEvent
  try dsimp only
  repeat' split
  all_goals simp

@[simp] theorem sameBut_staleEvent {F : List Field} {s t : State} (p : Port) (w : WordRecord)
    (hF : [.counters, .alerts] ⊆ F) :
      SameBut F s (t.staleEvent p w) ↔ SameBut F s t := SameBut.drop (staleEvent_frame t _ _) hF

theorem acceptWord_frame (s : State) (p : Port) (g : Group) (w : WordRecord) (e : Smc) :
    SameBut [.ports, .services, .counters, .alerts] s (s.acceptWord p g w e) := by
  unfold State.acceptWord
  try dsimp only
  repeat' split
  all_goals simp

@[simp] theorem sameBut_acceptWord {F : List Field} {s t : State} (p : Port) (g : Group) (w : WordRecord) (e : Smc)
    (hF : [.ports, .services, .counters, .alerts] ⊆ F) :
      SameBut F s (t.acceptWord p g w e) ↔ SameBut F s t := SameBut.drop (acceptWord_frame t _ _ _ _) hF

theorem judgeOnAir_frame (s : State) (p : Port) (g : Group) (w : WordRecord) :
    SameBut [.ports, .services, .counters, .alerts] s (s.judgeOnAir p g w) := by
  unfold State.judgeOnAir
  try dsimp only
  repeat' split
  all_goals simp

@[simp] theorem sameBut_judgeOnAir {F : List Field} {s t : State} (p : Port) (g : Group) (w : WordRecord)
    (hF : [.ports, .services, .counters, .alerts] ⊆ F) :
      SameBut F s (t.judgeOnAir p g w) ↔ SameBut F s t := SameBut.drop (judgeOnAir_frame t _ _ _) hF

theorem judgeYielding_frame (s : State) (p : Port) (g : Group) (w : WordRecord) :
    SameBut [.ports, .groups, .services, .sent, .counters, .alerts] s (s.judgeYielding p g w) := by
  unfold State.judgeYielding
  try dsimp only
  repeat' split
  all_goals simp

@[simp] theorem sameBut_judgeYielding {F : List Field} {s t : State} (p : Port) (g : Group) (w : WordRecord)
    (hF : [.ports, .groups, .services, .sent, .counters, .alerts] ⊆ F) :
      SameBut F s (t.judgeYielding p g w) ↔ SameBut F s t := SameBut.drop (judgeYielding_frame t _ _ _) hF

theorem judgeWord_frame (s : State) (p : Port) (w : WordRecord) :
    SameBut [.ports, .groups, .services, .sent, .counters, .alerts] s (s.judgeWord p w) := by
  unfold State.judgeWord
  try dsimp only
  repeat' split
  all_goals simp

@[simp] theorem sameBut_judgeWord {F : List Field} {s t : State} (p : Port) (w : WordRecord)
    (hF : [.ports, .groups, .services, .sent, .counters, .alerts] ⊆ F) :
      SameBut F s (t.judgeWord p w) ↔ SameBut F s t := SameBut.drop (judgeWord_frame t _ _) hF

theorem expireYield_frame (s : State) (g : Group) :
    SameBut [.groups, .ports, .sent, .counters, .alerts] s (s.expireYield g) := by
  unfold State.expireYield
  try dsimp only
  repeat' split
  all_goals simp

@[simp] theorem sameBut_expireYield {F : List Field} {s t : State} (g : Group)
    (hF : [.groups, .ports, .sent, .counters, .alerts] ⊆ F) :
      SameBut F s (t.expireYield g) ↔ SameBut F s t := SameBut.drop (expireYield_frame t _) hF

theorem ageCut_frame (s : State) (g : Group) :
    SameBut [.groups] s (s.ageCut g) := by
  unfold State.ageCut
  try dsimp only
  repeat' split
  all_goals simp

@[simp] theorem sameBut_ageCut {F : List Field} {s t : State} (g : Group)
    (hF : [.groups] ⊆ F) : SameBut F s (t.ageCut g) ↔ SameBut F s t := SameBut.drop (ageCut_frame t _) hF

/-! ### Links -/

theorem frameFails_frame (s : State) (p : Port) :
    SameBut [.counters, .alerts] s (s.frameFails p) := by
  unfold State.frameFails
  try dsimp only
  repeat' split
  all_goals simp

@[simp] theorem sameBut_frameFails {F : List Field} {s t : State} (p : Port)
    (hF : [.counters, .alerts] ⊆ F) :
      SameBut F s (t.frameFails p) ↔ SameBut F s t := SameBut.drop (frameFails_frame t _) hF

theorem refreshLink_frame (s : State) (p : Port) :
    SameBut [.ports, .sent] s (s.refreshLink p) := by
  unfold State.refreshLink
  try dsimp only
  repeat' split
  all_goals simp

@[simp] theorem sameBut_refreshLink {F : List Field} {s t : State} (p : Port)
    (hF : [.ports, .sent] ⊆ F) :
      SameBut F s (t.refreshLink p) ↔ SameBut F s t := SameBut.drop (refreshLink_frame t _) hF

theorem loseLink_frame (s : State) (p : Port) :
    SameBut [.ports, .groups, .services, .sent, .counters, .alerts] s (s.loseLink p) := by
  unfold State.loseLink
  try dsimp only
  repeat' split
  all_goals simp

@[simp] theorem sameBut_loseLink {F : List Field} {s t : State} (p : Port)
    (hF : [.ports, .groups, .services, .sent, .counters, .alerts] ⊆ F) :
      SameBut F s (t.loseLink p) ↔ SameBut F s t := SameBut.drop (loseLink_frame t _) hF

theorem expireSilence_frame (s : State) (p : Port) :
    SameBut [.ports, .groups, .services, .sent, .counters, .alerts] s (s.expireSilence p) := by
  unfold State.expireSilence
  try dsimp only
  repeat' split
  all_goals simp

@[simp] theorem sameBut_expireSilence {F : List Field} {s t : State} (p : Port)
    (hF : [.ports, .groups, .services, .sent, .counters, .alerts] ⊆ F) :
      SameBut F s (t.expireSilence p) ↔ SameBut F s t := SameBut.drop (expireSilence_frame t _) hF

theorem sendHold_frame (s : State) (p : Port) :
    SameBut [.ports, .sent, .counters, .alerts] s (s.sendHold p) := by
  unfold State.sendHold
  try dsimp only
  repeat' split
  all_goals simp

@[simp] theorem sameBut_sendHold {F : List Field} {s t : State} (p : Port)
    (hF : [.ports, .sent, .counters, .alerts] ⊆ F) :
      SameBut F s (t.sendHold p) ↔ SameBut F s t := SameBut.drop (sendHold_frame t _) hF

theorem sendResume_frame (s : State) (p : Port) :
    SameBut [.ports, .sent] s (s.sendResume p) := by
  unfold State.sendResume
  try dsimp only
  repeat' split
  all_goals simp

@[simp] theorem sameBut_sendResume {F : List Field} {s t : State} (p : Port)
    (hF : [.ports, .sent] ⊆ F) :
      SameBut F s (t.sendResume p) ↔ SameBut F s t := SameBut.drop (sendResume_frame t _) hF

theorem afterPush_frame (s : State) (p : Port) :
    SameBut [.ports, .sent, .counters, .alerts] s (s.afterPush p) := by
  unfold State.afterPush
  try dsimp only
  repeat' split
  all_goals simp

@[simp] theorem sameBut_afterPush {F : List Field} {s t : State} (p : Port)
    (hF : [.ports, .sent, .counters, .alerts] ⊆ F) :
      SameBut F s (t.afterPush p) ↔ SameBut F s t := SameBut.drop (afterPush_frame t _) hF

theorem afterRemoval_frame (s : State) (p : Port) :
    SameBut [.ports, .sent] s (s.afterRemoval p) := by
  unfold State.afterRemoval
  try dsimp only
  repeat' split
  all_goals simp

@[simp] theorem sameBut_afterRemoval {F : List Field} {s t : State} (p : Port)
    (hF : [.ports, .sent] ⊆ F) :
      SameBut F s (t.afterRemoval p) ↔ SameBut F s t := SameBut.drop (afterRemoval_frame t _) hF

theorem push_frame (s : State) (p : Port) (r : IntakeRecord) :
    SameBut [.ports, .sent, .counters, .alerts] s (s.push p r) := by
  unfold State.push
  try dsimp only
  repeat' split
  all_goals simp

@[simp] theorem sameBut_push {F : List Field} {s t : State} (p : Port) (r : IntakeRecord)
    (hF : [.ports, .sent, .counters, .alerts] ⊆ F) :
      SameBut F s (t.push p r) ↔ SameBut F s t := SameBut.drop (push_frame t _ _) hF

theorem removeHead_frame (s : State) (p : Port) :
    SameBut [.ports, .sent] s (s.removeHead p) := by
  unfold State.removeHead
  try dsimp only
  repeat' split
  all_goals simp

@[simp] theorem sameBut_removeHead {F : List Field} {s t : State} (p : Port)
    (hF : [.ports, .sent] ⊆ F) :
      SameBut F s (t.removeHead p) ↔ SameBut F s t := SameBut.drop (removeHead_frame t _) hF

theorem expireRefresh_frame (s : State) (p : Port) :
    SameBut [.ports, .sent, .counters, .alerts] s (s.expireRefresh p) := by
  unfold State.expireRefresh
  try dsimp only
  repeat' split
  all_goals simp

@[simp] theorem sameBut_expireRefresh {F : List Field} {s t : State} (p : Port)
    (hF : [.ports, .sent, .counters, .alerts] ⊆ F) :
      SameBut F s (t.expireRefresh p) ↔ SameBut F s t := SameBut.drop (expireRefresh_frame t _) hF

theorem pushWord_frame (s : State) (p : Port) (tick : BitVec 32) (a b : Bool) (x : Text) :
    SameBut [.ports, .sent, .counters, .alerts] s (s.pushWord p tick a b x) := by
  unfold State.pushWord
  try dsimp only
  repeat' split
  all_goals simp

@[simp] theorem sameBut_pushWord {F : List Field} {s t : State} (p : Port) (tick : BitVec 32) (a b : Bool) (x : Text)
    (hF : [.ports, .sent, .counters, .alerts] ⊆ F) :
      SameBut F s (t.pushWord p tick a b x) ↔ SameBut F s t := SameBut.drop (pushWord_frame t _ _ _ _ _) hF

theorem addSample_frame (s : State) (p : Port) (x : Int) :
    SameBut [.ports, .sent] s (s.addSample p x) := by
  unfold State.addSample
  try dsimp only
  repeat' split
  all_goals simp

@[simp] theorem sameBut_addSample {F : List Field} {s t : State} (p : Port) (x : Int)
    (hF : [.ports, .sent] ⊆ F) :
      SameBut F s (t.addSample p x) ↔ SameBut F s t := SameBut.drop (addSample_frame t _ _) hF

theorem lineFailure_frame (s : State) (p : Port) (v : FrameVerdict) :
    SameBut [.ports, .sent, .counters, .alerts] s (State.lineFailure p s v) := by
  unfold State.lineFailure
  repeat' split
  all_goals simp

@[simp] theorem sameBut_lineFailure {F : List Field} {s t : State} (p : Port) (v : FrameVerdict)
    (hF : [.ports, .sent, .counters, .alerts] ⊆ F) :
      SameBut F s (State.lineFailure p t v) ↔ SameBut F s t := SameBut.drop (lineFailure_frame t _ _) hF

theorem contributorFailure_frame (s : State) (p : Port) (raw : List Byte) :
    SameBut [.ports, .sent, .counters, .alerts] s (s.contributorFailure p raw) := by
  unfold State.contributorFailure
  exact SameBut.foldl (fun t x => by simp) _ _

@[simp] theorem sameBut_contributorFailure {F : List Field} {s t : State} (p : Port) (raw : List Byte)
    (hF : [.ports, .sent, .counters, .alerts] ⊆ F) :
      SameBut F s (t.contributorFailure p raw) ↔ SameBut F s t := SameBut.drop (contributorFailure_frame t _ _) hF

theorem takeWord_frame (s : State) (p : Port) :
    SameBut [.ports, .groups, .services, .sent, .counters, .alerts] s (s.takeWord p) := by
  unfold State.takeWord
  try dsimp only
  repeat' split
  all_goals simp

@[simp] theorem sameBut_takeWord {F : List Field} {s t : State} (p : Port)
    (hF : [.ports, .groups, .services, .sent, .counters, .alerts] ⊆ F) :
      SameBut F s (t.takeWord p) ↔ SameBut F s t := SameBut.drop (takeWord_frame t _) hF

theorem takeRetract_frame (s : State) (p : Port) :
    SameBut [.ports, .services, .sent, .counters, .alerts] s (s.takeRetract p) := by
  unfold State.takeRetract
  try dsimp only
  repeat' split
  all_goals simp

@[simp] theorem sameBut_takeRetract {F : List Field} {s t : State} (p : Port)
    (hF : [.ports, .services, .sent, .counters, .alerts] ⊆ F) :
      SameBut F s (t.takeRetract p) ↔ SameBut F s t := SameBut.drop (takeRetract_frame t _) hF

/-! ### Placement -/

theorem requestClear_frame (s : State) (k : Service) :
    SameBut [.services] s (s.requestClear k) := by
  unfold State.requestClear
  try dsimp only
  repeat' split
  all_goals simp

@[simp] theorem sameBut_requestClear {F : List Field} {s t : State} (k : Service)
    (hF : [.services] ⊆ F) :
      SameBut F s (t.requestClear k) ↔ SameBut F s t := SameBut.drop (requestClear_frame t _) hF

theorem cutCommitted_frame (s : State) (k : Service) :
    SameBut [.services, .counters, .alerts] s (s.cutCommitted k) := by
  unfold State.cutCommitted
  try dsimp only
  repeat' split
  all_goals simp

@[simp] theorem sameBut_cutCommitted {F : List Field} {s t : State} (k : Service)
    (hF : [.services, .counters, .alerts] ⊆ F) :
      SameBut F s (t.cutCommitted k) ↔ SameBut F s t := SameBut.drop (cutCommitted_frame t _) hF

theorem coverCheck_frame (s : State) (k : Service) :
    SameBut [.services, .counters, .alerts] s (s.coverCheck k) := by
  unfold State.coverCheck
  try dsimp only
  repeat' split
  all_goals simp

@[simp] theorem sameBut_coverCheck {F : List Field} {s t : State} (k : Service)
    (hF : [.services, .counters, .alerts] ⊆ F) :
      SameBut F s (t.coverCheck k) ↔ SameBut F s t := SameBut.drop (coverCheck_frame t _) hF

theorem applyStrap_frame (s : State) (k : Service) (i : Fin 4) (r : Option Strap) :
    SameBut [.services, .counters, .alerts] s (s.applyStrap k i r) := by
  unfold State.applyStrap
  try dsimp only
  repeat' split
  all_goals simp

@[simp] theorem sameBut_applyStrap {F : List Field} {s t : State} (k : Service) (i : Fin 4) (r : Option Strap)
    (hF : [.services, .counters, .alerts] ⊆ F) :
      SameBut F s (t.applyStrap k i r) ↔ SameBut F s t := SameBut.drop (applyStrap_frame t _ _ _) hF

theorem cutPrepared_frame (s : State) (k : Service) (id : PackageId) :
    SameBut [.services, .counters, .alerts] s (s.cutPrepared k id) := by
  unfold State.cutPrepared
  try dsimp only
  repeat' split
  all_goals simp

@[simp] theorem sameBut_cutPrepared {F : List Field} {s t : State} (k : Service) (id : PackageId)
    (hF : [.services, .counters, .alerts] ⊆ F) :
      SameBut F s (t.cutPrepared k id) ↔ SameBut F s t := SameBut.drop (cutPrepared_frame t _ _) hF

theorem endPlay_frame (s : State) (k : Service) :
    SameBut [.services, .counters, .alerts] s (s.endPlay k) := by
  unfold State.endPlay
  try dsimp only
  repeat' split
  all_goals simp

@[simp] theorem sameBut_endPlay {F : List Field} {s t : State} (k : Service)
    (hF : [.services, .counters, .alerts] ⊆ F) :
      SameBut F s (t.endPlay k) ↔ SameBut F s t := SameBut.drop (endPlay_frame t _) hF

/-! ### Packages -/

theorem answerPackage_frame (s : State) (p : Port) (id : PackageId) (r : PackageResult) :
    SameBut [.sent] s (s.answerPackage p id r) := by
  unfold State.answerPackage
  try dsimp only
  repeat' split
  all_goals simp

@[simp] theorem sameBut_answerPackage {F : List Field} {s t : State} (p : Port) (id : PackageId) (r : PackageResult)
    (hF : [.sent] ⊆ F) :
      SameBut F s (t.answerPackage p id r) ↔ SameBut F s t := SameBut.drop (answerPackage_frame t _ _ _) hF

theorem setLoad_frame (s : State) (p : Port) (c : LoadContext) :
    SameBut [.ports] s (s.setLoad p c) := by
  unfold State.setLoad
  try dsimp only
  repeat' split
  all_goals simp

@[simp] theorem sameBut_setLoad {F : List Field} {s t : State} (p : Port) (c : LoadContext)
    (hF : [.ports] ⊆ F) : SameBut F s (t.setLoad p c) ↔ SameBut F s t := SameBut.drop (setLoad_frame t _ _) hF

theorem freePackage_frame (s : State) (id : PackageId) :
    SameBut [.packages] s (s.freePackage id) := by
  unfold State.freePackage
  try dsimp only
  repeat' split
  all_goals simp

@[simp] theorem sameBut_freePackage {F : List Field} {s t : State} (id : PackageId)
    (hF : [.packages] ⊆ F) : SameBut F s (t.freePackage id) ↔ SameBut F s t := SameBut.drop (freePackage_frame t _) hF

theorem failLoad_frame (s : State) (p : Port) (id : PackageId) (w : LoadFailure) (c : LoadContext) :
    SameBut [.packages, .ports, .sent, .alerts] s (s.failLoad p id w c) := by
  unfold State.failLoad
  try dsimp only
  repeat' split
  all_goals simp

@[simp] theorem sameBut_failLoad {F : List Field} {s t : State} (p : Port) (id : PackageId) (w : LoadFailure) (c : LoadContext)
    (hF : [.packages, .ports, .sent, .alerts] ⊆ F) :
      SameBut F s (t.failLoad p id w c) ↔ SameBut F s t := SameBut.drop (failLoad_frame t _ _ _ _) hF

theorem endLoad_frame (s : State) (p : Port) :
    SameBut [.packages, .ports, .sent, .alerts] s (s.endLoad p) := by
  unfold State.endLoad
  try dsimp only
  repeat' split
  all_goals simp

@[simp] theorem sameBut_endLoad {F : List Field} {s t : State} (p : Port)
    (hF : [.packages, .ports, .sent, .alerts] ⊆ F) :
      SameBut F s (t.endLoad p) ↔ SameBut F s t := SameBut.drop (endLoad_frame t _) hF

theorem openPackage_frame (s : State) (p : Port) (id : PackageId) (n : Nat) :
    SameBut [.packages, .ports, .sent, .alerts] s (s.openPackage p id n) := by
  unfold State.openPackage
  try dsimp only
  repeat' split
  all_goals simp

@[simp] theorem sameBut_openPackage {F : List Field} {s t : State} (p : Port) (id : PackageId) (n : Nat)
    (hF : [.packages, .ports, .sent, .alerts] ⊆ F) :
      SameBut F s (t.openPackage p id n) ↔ SameBut F s t := SameBut.drop (openPackage_frame t _ _ _) hF

theorem loadCue_frame (s : State) (p : Port) (c : PreparedCue) :
    SameBut [.packages, .ports, .sent, .alerts, .counters] s (s.loadCue p c) := by
  unfold State.loadCue
  try dsimp only
  repeat' split
  all_goals simp

@[simp] theorem sameBut_loadCue {F : List Field} {s t : State} (p : Port) (c : PreparedCue)
    (hF : [.packages, .ports, .sent, .alerts, .counters] ⊆ F) :
      SameBut F s (t.loadCue p c) ↔ SameBut F s t := SameBut.drop (loadCue_frame t _ _) hF

theorem closeLoad_frame (s : State) (p : Port) (id : PackageId) (r : PackageRecord) :
    SameBut [.packages, .ports, .sent, .alerts] s (s.closeLoad p id r) := by
  unfold State.closeLoad
  try dsimp only
  repeat' split
  all_goals simp

@[simp] theorem sameBut_closeLoad {F : List Field} {s t : State} (p : Port) (id : PackageId) (r : PackageRecord)
    (hF : [.packages, .ports, .sent, .alerts] ⊆ F) :
      SameBut F s (t.closeLoad p id r) ↔ SameBut F s t := SameBut.drop (closeLoad_frame t _ _ _) hF

theorem closePackage_frame (s : State) (p : Port) (id : PackageId) :
    SameBut [.packages, .ports, .sent, .alerts] s (s.closePackage p id) := by
  unfold State.closePackage
  try dsimp only
  repeat' split
  all_goals simp

@[simp] theorem sameBut_closePackage {F : List Field} {s t : State} (p : Port) (id : PackageId)
    (hF : [.packages, .ports, .sent, .alerts] ⊆ F) :
      SameBut F s (t.closePackage p id) ↔ SameBut F s t := SameBut.drop (closePackage_frame t _ _) hF

theorem forget_frame (s : State) (p : Port) (id : PackageId) :
    SameBut [.ports] s (s.forget p id) := by
  unfold State.forget
  try dsimp only
  repeat' split
  all_goals simp

@[simp] theorem sameBut_forget {F : List Field} {s t : State} (p : Port) (id : PackageId)
    (hF : [.ports] ⊆ F) : SameBut F s (t.forget p id) ↔ SameBut F s t := SameBut.drop (forget_frame t _ _) hF

theorem endPlays_frame (s : State) (id : PackageId) :
    SameBut [.services, .counters, .alerts] s (s.endPlays id) := by
  unfold State.endPlays
  refine SameBut.trans_foldl ?_ (fun t x => ?_) _
  · simp
  · split <;> simp

@[simp] theorem sameBut_endPlays {F : List Field} {s t : State} (id : PackageId)
    (hF : [.services, .counters, .alerts] ⊆ F) :
      SameBut F s (t.endPlays id) ↔ SameBut F s t := SameBut.drop (endPlays_frame t _) hF

theorem dropPackage_frame (s : State) (p : Port) (id : PackageId) :
    SameBut [.packages, .ports, .services, .sent, .counters, .alerts] s (s.dropPackage p id) := by
  unfold State.dropPackage
  try dsimp only
  repeat' split
  all_goals simp

@[simp] theorem sameBut_dropPackage {F : List Field} {s t : State} (p : Port) (id : PackageId)
    (hF : [.packages, .ports, .services, .sent, .counters, .alerts] ⊆ F) :
      SameBut F s (t.dropPackage p id) ↔ SameBut F s t := SameBut.drop (dropPackage_frame t _ _) hF

theorem takeOpen_frame (s : State) (p : Port) :
    SameBut [.packages, .ports, .sent, .alerts, .counters] s (s.takeOpen p) := by
  unfold State.takeOpen
  try dsimp only
  repeat' split
  all_goals simp

@[simp] theorem sameBut_takeOpen {F : List Field} {s t : State} (p : Port)
    (hF : [.packages, .ports, .sent, .alerts, .counters] ⊆ F) :
      SameBut F s (t.takeOpen p) ↔ SameBut F s t := SameBut.drop (takeOpen_frame t _) hF

theorem takeCue_frame (s : State) (p : Port) :
    SameBut [.packages, .ports, .sent, .alerts, .counters] s (s.takeCue p) := by
  unfold State.takeCue
  try dsimp only
  repeat' split
  all_goals simp

@[simp] theorem sameBut_takeCue {F : List Field} {s t : State} (p : Port)
    (hF : [.packages, .ports, .sent, .alerts, .counters] ⊆ F) :
      SameBut F s (t.takeCue p) ↔ SameBut F s t := SameBut.drop (takeCue_frame t _) hF

theorem takeClose_frame (s : State) (p : Port) :
    SameBut [.packages, .ports, .sent, .alerts, .counters] s (s.takeClose p) := by
  unfold State.takeClose
  try dsimp only
  repeat' split
  all_goals simp

@[simp] theorem sameBut_takeClose {F : List Field} {s t : State} (p : Port)
    (hF : [.packages, .ports, .sent, .alerts, .counters] ⊆ F) :
      SameBut F s (t.takeClose p) ↔ SameBut F s t := SameBut.drop (takeClose_frame t _) hF

theorem takeDrop_frame (s : State) (p : Port) :
    SameBut [.packages, .ports, .services, .sent, .counters, .alerts] s (s.takeDrop p) := by
  unfold State.takeDrop
  try dsimp only
  repeat' split
  all_goals simp

@[simp] theorem sameBut_takeDrop {F : List Field} {s t : State} (p : Port)
    (hF : [.packages, .ports, .services, .sent, .counters, .alerts] ⊆ F) :
      SameBut F s (t.takeDrop p) ↔ SameBut F s t := SameBut.drop (takeDrop_frame t _) hF

theorem takeHead_frame (s : State) (p : Port) :
    SameBut [.packages, .ports, .groups, .services, .sent, .counters, .alerts] s (s.takeHead p) := by
  unfold State.takeHead
  try dsimp only
  repeat' split
  all_goals simp

@[simp] theorem sameBut_takeHead {F : List Field} {s t : State} (p : Port)
    (hF : [.packages, .ports, .groups, .services, .sent, .counters, .alerts] ⊆ F) :
      SameBut F s (t.takeHead p) ↔ SameBut F s t := SameBut.drop (takeHead_frame t _) hF

/-! ### Automation -/

theorem cutQueue_frame (s : State) (k : Service) (x : Smc) :
    SameBut [.ports, .services, .counters, .alerts] s (s.cutQueue k x) := by
  unfold State.cutQueue
  refine SameBut.trans_foldl ?_ (fun t x => ?_) _ <;> simp

@[simp] theorem sameBut_cutQueue {F : List Field} {s t : State} (k : Service) (x : Smc)
    (hF : [.ports, .services, .counters, .alerts] ⊆ F) :
      SameBut F s (t.cutQueue k x) ↔ SameBut F s t := SameBut.drop (cutQueue_frame t _ _) hF

theorem cutLiveCommitted_frame (s : State) (k : Service) (x : Smc) :
    SameBut [.services, .counters, .alerts] s (s.cutLiveCommitted k x) := by
  unfold State.cutLiveCommitted
  try dsimp only
  repeat' split
  all_goals simp

@[simp] theorem sameBut_cutLiveCommitted {F : List Field} {s t : State} (k : Service) (x : Smc)
    (hF : [.services, .counters, .alerts] ⊆ F) :
      SameBut F s (t.cutLiveCommitted k x) ↔ SameBut F s t := SameBut.drop (cutLiveCommitted_frame t _ _) hF

theorem clearPrepared_frame (s : State) (k : Service) :
    SameBut [.services] s (s.clearPrepared k) := by
  unfold State.clearPrepared
  try dsimp only
  repeat' split
  all_goals simp

@[simp] theorem sameBut_clearPrepared {F : List Field} {s t : State} (k : Service)
    (hF : [.services] ⊆ F) :
      SameBut F s (t.clearPrepared k) ↔ SameBut F s t := SameBut.drop (clearPrepared_frame t _) hF

theorem setKind_frame (s : State) (k : Service) (x : SegKind) (l : LastSwitch) :
    SameBut [.services] s (s.setKind k x l) := by
  unfold State.setKind
  try dsimp only
  repeat' split
  all_goals simp

@[simp] theorem sameBut_setKind {F : List Field} {s t : State} (k : Service) (x : SegKind) (l : LastSwitch)
    (hF : [.services] ⊆ F) : SameBut F s (t.setKind k x l) ↔ SameBut F s t := SameBut.drop (setKind_frame t _ _ _) hF

theorem setLiveStart_frame (s : State) (k : Service) (x : Smc) :
    SameBut [.services] s (s.setLiveStart k x) := by
  unfold State.setLiveStart
  try dsimp only
  repeat' split
  all_goals simp

@[simp] theorem sameBut_setLiveStart {F : List Field} {s t : State} (k : Service) (x : Smc)
    (hF : [.services] ⊆ F) :
      SameBut F s (t.setLiveStart k x) ↔ SameBut F s t := SameBut.drop (setLiveStart_frame t _ _) hF

theorem switchLive_frame (s : State) (k : Service) (x : Smc) :
    SameBut [.services, .counters, .alerts] s (s.switchLive k x) := by
  unfold State.switchLive
  try dsimp only
  repeat' split
  all_goals simp

@[simp] theorem sameBut_switchLive {F : List Field} {s t : State} (k : Service) (x : Smc)
    (hF : [.services, .counters, .alerts] ⊆ F) :
      SameBut F s (t.switchLive k x) ↔ SameBut F s t := SameBut.drop (switchLive_frame t _ _) hF

theorem switchBreak_frame (s : State) (k : Service) (x : Smc) :
    SameBut [.ports, .services, .counters, .alerts] s (s.switchBreak k x) := by
  unfold State.switchBreak
  try dsimp only
  repeat' split
  all_goals simp

@[simp] theorem sameBut_switchBreak {F : List Field} {s t : State} (k : Service) (x : Smc)
    (hF : [.ports, .services, .counters, .alerts] ⊆ F) :
      SameBut F s (t.switchBreak k x) ↔ SameBut F s t := SameBut.drop (switchBreak_frame t _ _) hF

theorem switchPackage_frame (s : State) (k : Service) (x : Smc) (id : PackageId) :
    SameBut [.ports, .services, .counters, .alerts] s (s.switchPackage k x id) := by
  unfold State.switchPackage
  try dsimp only
  repeat' split
  all_goals simp

@[simp] theorem sameBut_switchPackage {F : List Field} {s t : State} (k : Service) (x : Smc) (id : PackageId)
    (hF : [.ports, .services, .counters, .alerts] ⊆ F) :
      SameBut F s (t.switchPackage k x id) ↔ SameBut F s t := SameBut.drop (switchPackage_frame t _ _ _) hF

theorem switchFallback_frame (s : State) (k : Service) (x e : Smc) :
    SameBut [.services, .counters, .alerts] s (s.switchFallback k x e) := by
  unfold State.switchFallback
  try dsimp only
  repeat' split
  all_goals simp

@[simp] theorem sameBut_switchFallback {F : List Field} {s t : State} (k : Service) (x e : Smc)
    (hF : [.services, .counters, .alerts] ⊆ F) :
      SameBut F s (t.switchFallback k x e) ↔ SameBut F s t := SameBut.drop (switchFallback_frame t _ _ _) hF

theorem applySwitch_frame (s : State) (k : Service) (e : SwitchEntry) :
    SameBut [.ports, .services, .counters, .alerts] s (State.applySwitch k s e) := by
  unfold State.applySwitch
  try dsimp only
  repeat' split
  all_goals simp

@[simp] theorem sameBut_applySwitch {F : List Field} {s t : State} (k : Service) (e : SwitchEntry)
    (hF : [.ports, .services, .counters, .alerts] ⊆ F) :
      SameBut F s (State.applySwitch k t e) ↔ SameBut F s t := SameBut.drop (applySwitch_frame t _ _) hF

theorem joinSwitch_frame (s : State) (k : Service) (e : SwitchEntry) :
    SameBut [.ports, .services, .counters, .alerts] s (s.joinSwitch k e) := by
  unfold State.joinSwitch
  try dsimp only
  repeat' split
  all_goals simp

@[simp] theorem sameBut_joinSwitch {F : List Field} {s t : State} (k : Service) (e : SwitchEntry)
    (hF : [.ports, .services, .counters, .alerts] ⊆ F) :
      SameBut F s (t.joinSwitch k e) ↔ SameBut F s t := SameBut.drop (joinSwitch_frame t _ _) hF

theorem applyEvent_frame (s : State) (e : PendingEvent) :
    SameBut [.ports, .services, .counters, .alerts] s (s.applyEvent e) := by
  unfold State.applyEvent
  try dsimp only
  repeat' split
  all_goals simp

@[simp] theorem sameBut_applyEvent {F : List Field} {s t : State} (e : PendingEvent)
    (hF : [.ports, .services, .counters, .alerts] ⊆ F) :
      SameBut F s (t.applyEvent e) ↔ SameBut F s t := SameBut.drop (applyEvent_frame t _) hF

theorem expireEffects_frame (s : State) :
    SameBut [.events, .ports, .services, .counters, .alerts] s s.expireEffects := by
  unfold State.expireEffects
  refine SameBut.trans_foldl ?_ (fun t x => ?_) _
  · intro f hf
    cases f <;> first | rfl | (exfalso; simp at hf; done)
  · simp

@[simp] theorem sameBut_expireEffects {F : List Field} {s t : State}
    (hF : [.events, .ports, .services, .counters, .alerts] ⊆ F) : SameBut F s t.expireEffects ↔ SameBut F s t := SameBut.drop (expireEffects_frame t) hF

theorem expireSwitches_frame (s : State) (k : Service) :
    SameBut [.ports, .services, .counters, .alerts] s (s.expireSwitches k) := by
  unfold State.expireSwitches
  refine SameBut.trans_foldl ?_ (fun t x => ?_) _ <;> simp

@[simp] theorem sameBut_expireSwitches {F : List Field} {s t : State} (k : Service)
    (hF : [.ports, .services, .counters, .alerts] ⊆ F) :
      SameBut F s (t.expireSwitches k) ↔ SameBut F s t := SameBut.drop (expireSwitches_frame t _) hF

theorem ageLiveStart_frame (s : State) (k : Service) :
    SameBut [.services] s (s.ageLiveStart k) := by
  unfold State.ageLiveStart
  try dsimp only
  repeat' split
  all_goals simp

@[simp] theorem sameBut_ageLiveStart {F : List Field} {s t : State} (k : Service)
    (hF : [.services] ⊆ F) :
      SameBut F s (t.ageLiveStart k) ↔ SameBut F s t := SameBut.drop (ageLiveStart_frame t _) hF

theorem ageLastChange_frame (s : State) (k : Service) :
    SameBut [.services] s (s.ageLastChange k) := by
  unfold State.ageLastChange
  try dsimp only
  repeat' split
  all_goals simp

@[simp] theorem sameBut_ageLastChange {F : List Field} {s t : State} (k : Service)
    (hF : [.services] ⊆ F) :
      SameBut F s (t.ageLastChange k) ↔ SameBut F s t := SameBut.drop (ageLastChange_frame t _) hF

theorem acceptEvent_frame (s : State) (tag : BitVec 16) (f : EventFields) (e : Smc) (b : Bool) :
    SameBut [.events, .sent] s (s.acceptEvent tag f e b) := by
  unfold State.acceptEvent
  split <;> first | (simp; done) | skip
  all_goals (try simp)
  all_goals (intro f hf; cases f <;> first | rfl | (exfalso; simp at hf; done))

@[simp] theorem sameBut_acceptEvent {F : List Field} {s t : State} (tag : BitVec 16) (f : EventFields) (e : Smc) (b : Bool)
    (hF : [.events, .sent] ⊆ F) :
      SameBut F s (t.acceptEvent tag f e b) ↔ SameBut F s t := SameBut.drop (acceptEvent_frame t _ _ _ _) hF

theorem convertEvent_frame (s : State) (tag : BitVec 16) (f : EventFields) :
    SameBut [.events, .sent, .counters, .alerts] s (s.convertEvent tag f) := by
  unfold State.convertEvent
  try dsimp only
  repeat' split
  all_goals simp

@[simp] theorem sameBut_convertEvent {F : List Field} {s t : State} (tag : BitVec 16) (f : EventFields)
    (hF : [.events, .sent, .counters, .alerts] ⊆ F) :
      SameBut F s (t.convertEvent tag f) ↔ SameBut F s t := SameBut.drop (convertEvent_frame t _ _) hF

theorem takeEvent_frame (s : State) (b : List Byte) :
    SameBut [.events, .sent, .counters, .alerts] s (s.takeEvent b) := by
  unfold State.takeEvent
  try dsimp only
  repeat' split
  all_goals simp

@[simp] theorem sameBut_takeEvent {F : List Field} {s t : State} (b : List Byte)
    (hF : [.events, .sent, .counters, .alerts] ⊆ F) :
      SameBut F s (t.takeEvent b) ↔ SameBut F s t := SameBut.drop (takeEvent_frame t _) hF

/-! ### Output -/

theorem skipDue_frame (s : State) (k : Service) (d : Due) :
    SameBut [.ports, .services, .counters, .alerts] s (State.skipDue k s d) := by
  unfold State.skipDue
  try dsimp only
  repeat' split
  all_goals simp

@[simp] theorem sameBut_skipDue {F : List Field} {s t : State} (k : Service) (d : Due)
    (hF : [.ports, .services, .counters, .alerts] ⊆ F) :
      SameBut F s (State.skipDue k t d) ↔ SameBut F s t := SameBut.drop (skipDue_frame t _ _) hF

theorem enterSlot_frame (s : State) (k : Service) (x : CommittedSource) :
    SameBut [.services, .counters, .alerts] s (s.enterSlot k x) := by
  unfold State.enterSlot
  try dsimp only
  repeat' split
  all_goals simp

@[simp] theorem sameBut_enterSlot {F : List Field} {s t : State} (k : Service) (x : CommittedSource)
    (hF : [.services, .counters, .alerts] ⊆ F) :
      SameBut F s (t.enterSlot k x) ↔ SameBut F s t := SameBut.drop (enterSlot_frame t _ _) hF

theorem commitDue_frame (s : State) (k : Service) (d : Due) :
    SameBut [.ports, .services, .counters, .alerts] s (s.commitDue k d) := by
  unfold State.commitDue
  try dsimp only
  repeat' split
  all_goals simp

@[simp] theorem sameBut_commitDue {F : List Field} {s t : State} (k : Service) (d : Due)
    (hF : [.ports, .services, .counters, .alerts] ⊆ F) :
      SameBut F s (t.commitDue k d) ↔ SameBut F s t := SameBut.drop (commitDue_frame t _ _) hF

theorem supersede_frame (s : State) (k : Service) :
    SameBut [.services, .counters, .alerts] s (s.supersede k) := by
  unfold State.supersede
  try dsimp only
  repeat' split
  all_goals simp

@[simp] theorem sameBut_supersede {F : List Field} {s t : State} (k : Service)
    (hF : [.services, .counters, .alerts] ⊆ F) :
      SameBut F s (t.supersede k) ↔ SameBut F s t := SameBut.drop (supersede_frame t _) hF

theorem commitStep_frame (s : State) (k : Service) :
    SameBut [.ports, .services, .counters, .alerts] s (s.commitStep k) := by
  unfold State.commitStep
  dsimp only
  split
  · simp
  · rw [SameBut.drop (commitDue_frame _ _ _) (by simp), SameBut.drop (supersede_frame _ _) (by simp)]
    exact SameBut.foldl (fun t x => by simp) _ _

@[simp] theorem sameBut_commitStep {F : List Field} {s t : State} (k : Service)
    (hF : [.ports, .services, .counters, .alerts] ⊆ F) :
      SameBut F s (t.commitStep k) ↔ SameBut F s t := SameBut.drop (commitStep_frame t _) hF

theorem expireClear_frame (s : State) (k : Service) :
    SameBut [.services] s (s.expireClear k) := by
  unfold State.expireClear
  try dsimp only
  repeat' split
  all_goals simp

@[simp] theorem sameBut_expireClear {F : List Field} {s t : State} (k : Service)
    (hF : [.services] ⊆ F) : SameBut F s (t.expireClear k) ↔ SameBut F s t := SameBut.drop (expireClear_frame t _) hF

theorem accountLateness_frame (s : State) (k : Service) (c : Committed) :
    SameBut [.services, .counters, .alerts] s (s.accountLateness k c) := by
  unfold State.accountLateness
  try dsimp only
  repeat' split
  all_goals simp

@[simp] theorem sameBut_accountLateness {F : List Field} {s t : State} (k : Service) (c : Committed)
    (hF : [.services, .counters, .alerts] ⊆ F) :
      SameBut F s (t.accountLateness k c) ↔ SameBut F s t := SameBut.drop (accountLateness_frame t _ _) hF

theorem sendShow_frame (s : State) (k : Service) (c : Committed) :
    SameBut [.services, .sent, .counters, .alerts] s (s.sendShow k c) := by
  unfold State.sendShow
  try dsimp only
  repeat' split
  all_goals simp

@[simp] theorem sameBut_sendShow {F : List Field} {s t : State} (k : Service) (c : Committed)
    (hF : [.services, .sent, .counters, .alerts] ⊆ F) :
      SameBut F s (t.sendShow k c) ↔ SameBut F s t := SameBut.drop (sendShow_frame t _ _) hF

theorem sendControl_frame (s : State) (k : Service) :
    SameBut [.services, .sent, .counters, .alerts] s (s.sendControl k) := by
  unfold State.sendControl
  try dsimp only
  repeat' split
  all_goals simp

@[simp] theorem sameBut_sendControl {F : List Field} {s t : State} (k : Service)
    (hF : [.services, .sent, .counters, .alerts] ⊆ F) :
      SameBut F s (t.sendControl k) ↔ SameBut F s t := SameBut.drop (sendControl_frame t _) hF

theorem setDeficit_frame (s : State) (k : Service) (d : Nat) :
    SameBut [.services] s (s.setDeficit k d) := by
  unfold State.setDeficit
  try dsimp only
  repeat' split
  all_goals simp

@[simp] theorem sameBut_setDeficit {F : List Field} {s t : State} (k : Service) (d : Nat)
    (hF : [.services] ⊆ F) :
      SameBut F s (t.setDeficit k d) ↔ SameBut F s t := SameBut.drop (setDeficit_frame t _ _) hF

theorem control_frame (x : Sending) (k : Service) :
    SameBut [.services, .sent, .counters, .alerts] x.state (x.control k).state := by
  unfold Sending.control
  dsimp only
  split <;> simp

theorem strict_frame (x : Sending) (k : Service) :
    SameBut [.services, .sent, .counters, .alerts] x.state (x.strict k).state := by
  unfold Sending.strict
  split
  · simp
  · split <;> simp

theorem wrr_frame (x : Sending) (k : Service) :
    SameBut [.services, .sent, .roundRobin, .counters, .alerts] x.state (x.wrr k).state := by
  unfold Sending.wrr
  dsimp only
  split
  · simp
  · split
    · rename_i c _ _
      refine SameBut.trans
        (t := (x.state.setDeficit k (min deficitMax ((x.state.service k).deficit + 32 * (x.state.service k).par.weight) -
          c.source.cost)).sendShow k c) (by simp) ?_
      intro f hf
      cases f <;> first | rfl | (exfalso; simp at hf; done)
    · simp

theorem sending_foldl {α : Type} {F : List Field} {f : Sending → α → Sending}
    (h : ∀ x k, SameBut F x.state (f x k).state) (l : List α) (x : Sending) : SameBut F x.state (l.foldl f x).state := by
  induction l generalizing x with
  | nil => exact SameBut.refl _ _
  | cons k l ih => exact (h x k).trans (ih _)

theorem controls_frame (x : Sending) :
    SameBut [.services, .sent, .counters, .alerts] x.state x.controls.state := by
  unfold Sending.controls
  split
  · exact sending_foldl control_frame x.state.enabledServices ⟨x.state, x.state.budget⟩
  · simp

theorem captions_frame (x : Sending) :
    SameBut [.services, .sent, .roundRobin, .counters, .alerts] x.state x.captions.state := by
  unfold Sending.captions
  split
  · simp
  · exact (sending_foldl strict_frame _ _).mono (by simp)
  · exact sending_foldl wrr_frame _ _

theorem deferEvent_frame (s : State) (k : Service) :
    SameBut [.counters, .alerts] s (s.deferEvent k) := by
  unfold State.deferEvent
  try dsimp only
  repeat' split
  all_goals simp

@[simp] theorem sameBut_deferEvent {F : List Field} {s t : State} (k : Service)
    (hF : [.counters, .alerts] ⊆ F) :
      SameBut F s (t.deferEvent k) ↔ SameBut F s t := SameBut.drop (deferEvent_frame t _) hF

theorem checkStall_frame (s : State) :
    SameBut [.alerts] s s.checkStall := by
  unfold State.checkStall
  try dsimp only
  repeat' split
  all_goals simp

@[simp] theorem sameBut_checkStall {F : List Field} {s t : State}
    (hF : [.alerts] ⊆ F) : SameBut F s t.checkStall ↔ SameBut F s t := SameBut.drop (checkStall_frame t) hF

theorem account_frame (s : State) :
    SameBut [.busyCount, .counters, .alerts] s s.account := by
  unfold State.account
  split
  · have h : SameBut [.counters, .alerts]
      s (s.enabledServices.foldl State.deferEvent s) := SameBut.foldl (fun t x => by simp) _ _
    refine SameBut.trans (h.mono (by simp)) ?_
    intro f hf
    cases f <;> first | rfl | (exfalso; simp at hf; done)
  · rw [SameBut.drop (checkStall_frame _) (by simp), SameBut.drop (raise_frame _ _) (by simp)]
    intro f hf
    cases f <;> first | rfl | (exfalso; simp at hf; done)

@[simp] theorem sameBut_account {F : List Field} {s t : State}
    (hF : [.busyCount, .counters, .alerts] ⊆ F) : SameBut F s t.account ↔ SameBut F s t := SameBut.drop (account_frame t) hF

theorem deadlineStep_frame (s : State) :
    SameBut [.services] s s.deadlineStep := by
  unfold State.deadlineStep
  exact SameBut.foldl (fun t x => by simp) _ _

@[simp] theorem sameBut_deadlineStep {F : List Field} {s t : State}
    (hF : [.services] ⊆ F) : SameBut F s t.deadlineStep ↔ SameBut F s t := SameBut.drop (deadlineStep_frame t) hF

/-! ### The frame boundary -/

theorem expireIdle_frame (s : State) (k : Service) :
    SameBut [.ports, .services, .counters, .alerts] s (s.expireIdle k) := by
  unfold State.expireIdle
  try dsimp only
  repeat' split
  all_goals simp

@[simp] theorem sameBut_expireIdle {F : List Field} {s t : State} (k : Service)
    (hF : [.ports, .services, .counters, .alerts] ⊆ F) :
      SameBut F s (t.expireIdle k) ↔ SameBut F s t := SameBut.drop (expireIdle_frame t _) hF

theorem runTask_frame (s : State) (x : BoundaryTask) :
    SameBut [.events, .packages, .ports, .groups, .services, .sent, .counters, .alerts] s (s.runTask x) := by
  unfold State.runTask
  try dsimp only
  repeat' split
  all_goals simp

@[simp] theorem sameBut_runTask {F : List Field} {s t : State} (x : BoundaryTask)
    (hF : [.events, .packages, .ports, .groups, .services, .sent, .counters, .alerts] ⊆ F) :
      SameBut F s (t.runTask x) ↔ SameBut F s t := SameBut.drop (runTask_frame t _) hF

theorem finishBoundary_frame (s : State) :
    SameBut [.events, .packages, .ports, .groups, .services, .sent, .counters, .alerts] s s.finishBoundary := by
  unfold State.finishBoundary
  refine SameBut.trans_foldl ?_ (fun t x => ?_) _ <;> simp

@[simp] theorem sameBut_finishBoundary {F : List Field} {s t : State}
    (hF : [.events, .packages, .ports, .groups, .services, .sent, .counters, .alerts] ⊆ F) : SameBut F s t.finishBoundary ↔ SameBut F s t := SameBut.drop (finishBoundary_frame t) hF

theorem armTimers_frame (s : State) :
    SameBut [.events, .services] s s.armTimers := by
  intro f hf
  cases f <;> first | rfl | (exfalso; simp at hf; done)

@[simp] theorem sameBut_armTimers {F : List Field} {s t : State}
    (hF : [.events, .services] ⊆ F) : SameBut F s t.armTimers ↔ SameBut F s t := SameBut.drop (armTimers_frame t) hF

theorem runStep_frame (x : Sending) (y : BoundaryStep) :
    SameBut [.roundRobin, .busyCount, .events, .packages, .ports, .groups, .services, .sent, .counters, .alerts]
      x.state (x.runStep y).state := by
  cases y
  case controls => exact (controls_frame x).mono (by simp)
  case captions => exact (captions_frame x).mono (by simp)
  all_goals simp [Sending.runStep]

theorem advanceBoundary_frame (s : State) (m : Moment) :
    SameBut [.ref, .events, .services, .counters, .alerts] s (s.advanceBoundary m) := by
  unfold State.advanceBoundary
  simp only [List.cons_subset, List.nil_subset, List.mem_cons, reduceCtorEq, true_or, or_true, and_self,
    sameBut_raiseIf, sameBut_armTimers]
  intro f hf
  cases f <;> first | rfl | (exfalso; simp at hf; done)

@[simp] theorem sameBut_advanceBoundary {F : List Field} {s t : State} (m : Moment)
    (hF : [.ref, .events, .services, .counters, .alerts] ⊆ F) :
      SameBut F s (t.advanceBoundary m) ↔ SameBut F s t := SameBut.drop (advanceBoundary_frame t _) hF

theorem frameBoundary_frame (s : State) (m : Moment) (o : BoundaryOrder) :
    SameBut [.ref, .roundRobin, .busyCount, .events, .packages, .ports, .groups, .services, .sent, .counters, .alerts]
      s (s.frameBoundary m o) := by
  unfold State.frameBoundary
  refine SameBut.trans ?_ ((sending_foldl runStep_frame _ _).mono (by simp))
  rw [SameBut.drop (sampleLevels_frame _) (by simp)]
  refine SameBut.trans ?_ ((sending_foldl runStep_frame _ _).mono (by simp))
  simp

@[simp] theorem sameBut_frameBoundary {F : List Field} {s t : State} (m : Moment) (o : BoundaryOrder)
    (hF : [.ref, .roundRobin, .busyCount, .events, .packages, .ports, .groups, .services, .sent, .counters, .alerts] ⊆ F) :
      SameBut F s (t.frameBoundary m o) ↔ SameBut F s t := SameBut.drop (frameBoundary_frame t _ _) hF

/-! ### The reference unit -/

theorem lockedBoundary_frame (s : State) (b : Bool) (m : Moment) (o : BoundaryOrder) :
    SameBut [.ref, .roundRobin, .busyCount, .events, .packages, .ports, .groups, .services, .sent, .counters, .alerts]
      s (s.lockedBoundary b m o) := by
  unfold State.lockedBoundary
  try dsimp only
  repeat' split
  all_goals simp

@[simp] theorem sameBut_lockedBoundary {F : List Field} {s t : State} (b : Bool) (m : Moment) (o : BoundaryOrder)
    (hF : [.ref, .roundRobin, .busyCount, .events, .packages, .ports, .groups, .services, .sent, .counters, .alerts] ⊆ F) :
      SameBut F s (t.lockedBoundary b m o) ↔ SameBut F s t := SameBut.drop (lockedBoundary_frame t _ _ _) hF

theorem qualifyingPulse_frame (s : State) (m : Moment) (o : BoundaryOrder) :
    SameBut [.ref, .roundRobin, .busyCount, .events, .packages, .ports, .groups, .services, .sent, .counters, .alerts]
      s (s.qualifyingPulse m o) := by
  unfold State.qualifyingPulse
  try dsimp only
  repeat' split
  all_goals first | exact SameBut.refl _ _ | skip
  all_goals (try simp)
  all_goals (intro f hf; cases f <;> first | rfl | (exfalso; simp at hf; done))

@[simp] theorem sameBut_qualifyingPulse {F : List Field} {s t : State} (m : Moment) (o : BoundaryOrder)
    (hF : [.ref, .roundRobin, .busyCount, .events, .packages, .ports, .groups, .services, .sent, .counters, .alerts] ⊆ F) :
      SameBut F s (t.qualifyingPulse m o) ↔ SameBut F s t := SameBut.drop (qualifyingPulse_frame t _ _) hF

theorem lockedPulse_frame (s : State) (m : Moment) (o : BoundaryOrder) :
    SameBut [.ref, .roundRobin, .busyCount, .events, .packages, .ports, .groups, .services, .sent, .counters, .alerts]
      s (s.lockedPulse m o) := by
  unfold State.lockedPulse
  try dsimp only
  repeat' split
  all_goals first | exact SameBut.refl _ _ | skip
  all_goals (try simp)
  all_goals (intro f hf; cases f <;> first | rfl | (exfalso; simp at hf; done))

@[simp] theorem sameBut_lockedPulse {F : List Field} {s t : State} (m : Moment) (o : BoundaryOrder)
    (hF : [.ref, .roundRobin, .busyCount, .events, .packages, .ports, .groups, .services, .sent, .counters, .alerts] ⊆ F) :
      SameBut F s (t.lockedPulse m o) ↔ SameBut F s t := SameBut.drop (lockedPulse_frame t _ _) hF

theorem unlockedPulse_frame (s : State) (o : RefOrigin) (m : Moment) :
    SameBut [.ref] s (s.unlockedPulse o m) := by
  unfold State.unlockedPulse
  try dsimp only
  repeat' split
  all_goals first | exact SameBut.refl _ _ | skip
  all_goals (try simp)
  all_goals (intro f hf; cases f <;> first | rfl | (exfalso; simp at hf; done))

@[simp] theorem sameBut_unlockedPulse {F : List Field} {s t : State} (o : RefOrigin) (m : Moment)
    (hF : [.ref] ⊆ F) :
      SameBut F s (t.unlockedPulse o m) ↔ SameBut F s t := SameBut.drop (unlockedPulse_frame t _ _) hF

theorem pulse_frame (s : State) (m : Moment) (o : BoundaryOrder) :
    SameBut [.ref, .roundRobin, .busyCount, .events, .packages, .ports, .groups, .services, .sent, .counters, .alerts]
      s (s.pulse m o) := by
  unfold State.pulse
  try dsimp only
  repeat' split
  all_goals simp

@[simp] theorem sameBut_pulse {F : List Field} {s t : State} (m : Moment) (o : BoundaryOrder)
    (hF : [.ref, .roundRobin, .busyCount, .events, .packages, .ports, .groups, .services, .sent, .counters, .alerts] ⊆ F) :
      SameBut F s (t.pulse m o) ↔ SameBut F s t := SameBut.drop (pulse_frame t _ _) hF

theorem missPulse_frame (s : State) :
    SameBut [.ref] s s.missPulse := by
  unfold State.missPulse
  try dsimp only
  repeat' split
  all_goals first | exact SameBut.refl _ _ | skip
  all_goals (try simp)
  all_goals (intro f hf; cases f <;> first | rfl | (exfalso; simp at hf; done))

@[simp] theorem sameBut_missPulse {F : List Field} {s t : State}
    (hF : [.ref] ⊆ F) : SameBut F s t.missPulse ↔ SameBut F s t := SameBut.drop (missPulse_frame t) hF

theorem loseReference_frame (s : State) (o : BoundaryOrder) :
    SameBut [.ref, .roundRobin, .busyCount, .events, .packages, .ports, .groups, .services, .sent, .counters, .alerts]
      s (s.loseReference o) := by
  unfold State.loseReference
  try dsimp only
  repeat' split
  all_goals first | exact SameBut.refl _ _ | skip
  all_goals (try simp)
  all_goals (intro f hf; cases f <;> first | rfl | (exfalso; simp at hf; done))

@[simp] theorem sameBut_loseReference {F : List Field} {s t : State} (o : BoundaryOrder)
    (hF : [.ref, .roundRobin, .busyCount, .events, .packages, .ports, .groups, .services, .sent, .counters, .alerts] ⊆ F) :
      SameBut F s (t.loseReference o) ↔ SameBut F s t := SameBut.drop (loseReference_frame t _) hF

theorem flywheelTick_frame (s : State) (o : BoundaryOrder) :
    SameBut [.ref, .roundRobin, .busyCount, .events, .packages, .ports, .groups, .services, .sent, .counters, .alerts]
      s (s.flywheelTick o) := by
  unfold State.flywheelTick
  try dsimp only
  repeat' split
  all_goals first | exact SameBut.refl _ _ | skip
  all_goals (try simp)
  all_goals (intro f hf; cases f <;> first | rfl | (exfalso; simp at hf; done))

@[simp] theorem sameBut_flywheelTick {F : List Field} {s t : State} (o : BoundaryOrder)
    (hF : [.ref, .roundRobin, .busyCount, .events, .packages, .ports, .groups, .services, .sent, .counters, .alerts] ⊆ F) :
      SameBut F s (t.flywheelTick o) ↔ SameBut F s t := SameBut.drop (flywheelTick_frame t _) hF

theorem checkLabel_frame (s : State) (l : Label) :
    SameBut [.ref, .counters, .alerts] s (s.checkLabel l) := by
  unfold State.checkLabel
  try dsimp only
  repeat' split
  all_goals first | exact SameBut.refl _ _ | skip
  all_goals (try simp)
  all_goals (intro f hf; cases f <;> first | rfl | (exfalso; simp at hf; done))

@[simp] theorem sameBut_checkLabel {F : List Field} {s t : State} (l : Label)
    (hF : [.ref, .counters, .alerts] ⊆ F) :
      SameBut F s (t.checkLabel l) ↔ SameBut F s t := SameBut.drop (checkLabel_frame t _) hF

theorem takeLabel_frame (s : State) (b : Bool) (l : Label) :
    SameBut [.ref, .counters, .alerts] s (s.takeLabel b l) := by
  unfold State.takeLabel
  try dsimp only
  repeat' split
  all_goals simp

@[simp] theorem sameBut_takeLabel {F : List Field} {s t : State} (b : Bool) (l : Label)
    (hF : [.ref, .counters, .alerts] ⊆ F) :
      SameBut F s (t.takeLabel b l) ↔ SameBut F s t := SameBut.drop (takeLabel_frame t _ _) hF

/-! ### Parameters -/

theorem setPortPar_frame (s : State) (p : Port) (x : PortParams) :
    SameBut [.ports] s (s.setPortPar p x) := by
  unfold State.setPortPar
  try dsimp only
  repeat' split
  all_goals simp

@[simp] theorem sameBut_setPortPar {F : List Field} {s t : State} (p : Port) (x : PortParams)
    (hF : [.ports] ⊆ F) : SameBut F s (t.setPortPar p x) ↔ SameBut F s t := SameBut.drop (setPortPar_frame t _ _) hF

theorem setServicePar_frame (s : State) (k : Service) (x : ServiceParams) :
    SameBut [.services] s (s.setServicePar k x) := by
  unfold State.setServicePar
  try dsimp only
  repeat' split
  all_goals simp

@[simp] theorem sameBut_setServicePar {F : List Field} {s t : State} (k : Service) (x : ServiceParams)
    (hF : [.services] ⊆ F) :
      SameBut F s (t.setServicePar k x) ↔ SameBut F s t := SameBut.drop (setServicePar_frame t _ _) hF

theorem writeRate_frame (s : State) (m : Moment) (r : Rate) :
    SameBut [.ref] s (s.writeRate m r) := by
  unfold State.writeRate
  try dsimp only
  repeat' split
  all_goals first | exact SameBut.refl _ _ | skip
  all_goals (try simp)
  all_goals (intro f hf; cases f <;> first | rfl | (exfalso; simp at hf; done))

@[simp] theorem sameBut_writeRate {F : List Field} {s t : State} (m : Moment) (r : Rate)
    (hF : [.ref] ⊆ F) : SameBut F s (t.writeRate m r) ↔ SameBut F s t := SameBut.drop (writeRate_frame t _ _) hF

theorem writeFlowControl_frame (s : State) (p : Port) (b : Bool) :
    SameBut [.ports, .sent] s (s.writeFlowControl p b) := by
  unfold State.writeFlowControl
  try dsimp only
  repeat' split
  all_goals simp

@[simp] theorem sameBut_writeFlowControl {F : List Field} {s t : State} (p : Port) (b : Bool)
    (hF : [.ports, .sent] ⊆ F) :
      SameBut F s (t.writeFlowControl p b) ↔ SameBut F s t := SameBut.drop (writeFlowControl_frame t _ _) hF

theorem writeRoute_frame (s : State) (k : Service) (g : Option Group) :
    SameBut [.ports, .services, .counters, .alerts] s (s.writeRoute k g) := by
  unfold State.writeRoute
  try dsimp only
  repeat' split
  all_goals simp

@[simp] theorem sameBut_writeRoute {F : List Field} {s t : State} (k : Service) (g : Option Group)
    (hF : [.ports, .services, .counters, .alerts] ⊆ F) :
      SameBut F s (t.writeRoute k g) ↔ SameBut F s t := SameBut.drop (writeRoute_frame t _ _) hF

theorem writeSchedMode_frame (s : State) (m : SchedMode) :
    SameBut [.schedMode, .roundRobin, .services] s (s.writeSchedMode m) := by
  unfold State.writeSchedMode
  split <;> first | (simp; done) | skip
  all_goals (try simp)
  all_goals (intro f hf; cases f <;> first | rfl | (exfalso; simp at hf; done))

@[simp] theorem sameBut_writeSchedMode {F : List Field} {s t : State} (m : SchedMode)
    (hF : [.schedMode, .roundRobin, .services] ⊆ F) :
      SameBut F s (t.writeSchedMode m) ↔ SameBut F s t := SameBut.drop (writeSchedMode_frame t _) hF

theorem discardPackages_frame (s : State) :
    SameBut [.packages, .ports] s s.discardPackages := by
  intro f hf
  cases f <;> first | rfl | (exfalso; simp at hf; done)

@[simp] theorem sameBut_discardPackages {F : List Field} {s t : State}
    (hF : [.packages, .ports] ⊆ F) : SameBut F s t.discardPackages ↔ SameBut F s t := SameBut.drop (discardPackages_frame t) hF

theorem writePool_frame (s : State) (r : Region) :
    SameBut [.packages, .ports, .poolRegion] s (s.writePool r) := by
  unfold State.writePool
  split
  · simp
  · refine SameBut.trans (t := s.discardPackages) (by simp) ?_
    intro f hf
    cases f <;> first | rfl | (exfalso; simp at hf; done)

@[simp] theorem sameBut_writePool {F : List Field} {s t : State} (r : Region)
    (hF : [.packages, .ports, .poolRegion] ⊆ F) :
      SameBut F s (t.writePool r) ↔ SameBut F s t := SameBut.drop (writePool_frame t _) hF

theorem writeRegion_frame (s : State) (n : RegionName) (r : Region) :
    SameBut [.packages, .ports, .services, .poolRegion] s (s.writeRegion n r) := by
  unfold State.writeRegion
  try dsimp only
  repeat' split
  all_goals simp

@[simp] theorem sameBut_writeRegion {F : List Field} {s t : State} (n : RegionName) (r : Region)
    (hF : [.packages, .ports, .services, .poolRegion] ⊆ F) :
      SameBut F s (t.writeRegion n r) ↔ SameBut F s t := SameBut.drop (writeRegion_frame t _ _) hF

/-! ### The supervisory unit -/

theorem beginTransaction_frame (s : State) :
    SameBut [.sup, .sent] s s.beginTransaction := by
  intro f hf
  cases f <;> first | rfl | (exfalso; simp at hf; done)

@[simp] theorem sameBut_beginTransaction {F : List Field} {s t : State}
    (hF : [.sup, .sent] ⊆ F) : SameBut F s t.beginTransaction ↔ SameBut F s t := SameBut.drop (beginTransaction_frame t) hF

theorem carrier_frame (s : State) :
    SameBut [.sup, .sent] s s.carrier := by
  unfold State.carrier
  try dsimp only
  repeat' split
  all_goals simp

@[simp] theorem sameBut_carrier {F : List Field} {s t : State}
    (hF : [.sup, .sent] ⊆ F) : SameBut F s t.carrier ↔ SameBut F s t := SameBut.drop (carrier_frame t) hF

theorem enterRun_frame (s : State) :
    SameBut [.mode, .layout, .ports, .services] s s.enterRun := by
  intro f hf
  cases f <;> first | rfl | (exfalso; simp at hf; done)

@[simp] theorem sameBut_enterRun {F : List Field} {s t : State}
    (hF : [.mode, .layout, .ports, .services] ⊆ F) : SameBut F s t.enterRun ↔ SameBut F s t := SameBut.drop (enterRun_frame t) hF

theorem leaveRun_frame (s : State) :
    SameBut [.mode, .sent, .ports, .groups, .services, .roundRobin, .busyCount, .events, .packages] s s.leaveRun := by
  intro f hf
  cases f <;> first | rfl | (exfalso; simp at hf; done)

@[simp] theorem sameBut_leaveRun {F : List Field} {s t : State}
    (hF : [.mode, .sent, .ports, .groups, .services, .roundRobin, .busyCount, .events, .packages] ⊆ F) : SameBut F s t.leaveRun ↔ SameBut F s t := SameBut.drop (leaveRun_frame t) hF

end Sys2Proof.Machine
end

