-- ==== Sys2Proof/Laws/Wire.lean ====
section
/-! SUPPORT. What reading a stretch of line gives, frame by frame (spec/12, Frame formats), and the type codes. -/

namespace Sys2Proof.Machine

/-- The shift of the check value is linear over exclusive or. -/
theorem crcShift_xor (c d : BitVec 16) : crcShift (c ^^^ d) = crcShift c ^^^ crcShift d := by
  unfold crcShift
  rw [BitVec.msb_xor, BitVec.shiftLeft_xor_distrib]
  have hp : ∀ x y z : BitVec 16, (x ^^^ z) ^^^ (y ^^^ z) = x ^^^ y := fun x y z => by
    rw [BitVec.xor_assoc, BitVec.xor_comm y z, ← BitVec.xor_assoc z, BitVec.xor_self, BitVec.zero_xor]
  cases c.msb <;> cases d.msb <;> simp [hp] <;> ac_rfl

/-- One byte of the check value, bit by bit from the most significant (spec/12 R184). -/
theorem crcByte_serial (c : BitVec 16) (b : Byte) :
    crcByte c b = [7, 6, 5, 4, 3, 2, 1, 0].foldl
      (fun (c : BitVec 16) i => if (c.msb ^^ b.getLsbD i) = true then (c <<< 1) ^^^ 0x1021#16 else c <<< 1) c := by
  have hs : ∀ (c : BitVec 16) (x : Bool), (if (c.msb ^^ x) = true then (c <<< 1) ^^^ 0x1021#16 else c <<< 1) =
      crcShift c ^^^ (if x = true then 0x1021#16 else 0#16) := by
    intro c x
    unfold crcShift
    cases c.msb <;> cases x <;> simp
  have h0 : ∀ b : Byte, crcByte 0#16 b = [7, 6, 5, 4, 3, 2, 1, 0].foldl
      (fun (c : BitVec 16) i => crcShift c ^^^ (if b.getLsbD i = true then 0x1021#16 else 0#16)) 0#16 := by
    decide +kernel
  have hc : crcByte c b = crcShift (crcShift (crcShift (crcShift (crcShift (crcShift (crcShift (crcShift c))))))) ^^^
      crcByte 0#16 b := by
    have h8 : ∀ d : BitVec 16,
        crcShift (crcShift (crcShift (crcShift (crcShift (crcShift (crcShift (crcShift (c ^^^ d)))))))) =
          crcShift (crcShift (crcShift (crcShift (crcShift (crcShift (crcShift (crcShift c))))))) ^^^
            crcShift (crcShift (crcShift (crcShift (crcShift (crcShift (crcShift (crcShift (0#16 ^^^ d)))))))) := by
      intro d
      simp only [crcShift_xor, BitVec.zero_xor]
    exact h8 _
  rw [hc, h0]
  simp only [List.foldl, hs, crcShift_xor]
  simp only [show crcShift 0#16 = 0#16 from by decide, BitVec.xor_assoc, BitVec.zero_xor]
/-- What stands behind what was read of a line. -/
def FrameRead.rest : FrameRead → List Byte
  | .noMarker => []
  | .failed _ rest => rest
  | .frame _ _ rest => rest

theorem readBody_rest_le (limit : Nat) (after : List Byte) :
    (readBody limit after).rest.length ≤ after.length := by
  unfold readBody
  split
  · next len type more =>
    dsimp only
    split
    · next hi lo rest h =>
      have hd := congrArg List.length h
      simp only [List.length_drop, List.length_cons] at hd
      split
      · simp [FrameRead.rest]
      · split <;> simp only [FrameRead.rest, List.length_cons] <;> omega
    · simp [FrameRead.rest]
  · simp [FrameRead.rest]

/-- Reading one frame leaves less of the line. -/
theorem readFrame_rest_lt (limit : Nat) (line : List Byte) (h : line ≠ []) :
    (readFrame limit line).rest.length < line.length := by
  have hd := (List.dropWhile_sublist (· != frameMarker) (l := line)).length_le
  unfold readFrame
  split
  · simpa [FrameRead.rest] using List.length_pos_iff.2 h
  · next after ha =>
    have hb := readBody_rest_le limit after
    rw [ha, List.length_cons] at hd
    omega

/-- Any fuel that is no less than the line's length reads the same frames. -/
theorem readFrames_fuel (limit : Nat) : ∀ (n m : Nat) (line : List Byte), line.length ≤ n → line.length ≤ m →
    readFrames limit n line = readFrames limit m line
  | 0, 0, _, _, _ => rfl
  | 0, m + 1, [], _, _ => by simp [readFrames, readFrame]
  | n + 1, 0, [], _, _ => by simp [readFrames, readFrame]
  | n + 1, m + 1, [], _, _ => by simp [readFrames, readFrame]
  | n + 1, m + 1, b :: bs, hn, hm => by
    have hr := readFrame_rest_lt limit (b :: bs) (by simp)
    simp only [List.length_cons, readFrames] at hn hm hr ⊢
    cases hf : readFrame limit (b :: bs) <;> rw [hf] at hr <;> simp only [FrameRead.rest] at hr ⊢
    all_goals rw [readFrames_fuel limit n m _ (by omega) (by omega)]

/-- The frames of a line: its first, and those behind it. -/
theorem readFrames_line (limit : Nat) (line : List Byte) :
    readFrames limit line.length line = match readFrame limit line with
      | .noMarker => []
      | f => f :: readFrames limit f.rest.length f.rest := by
  cases line with
  | nil => simp [readFrames, readFrame]
  | cons b bs =>
    have hr := readFrame_rest_lt limit (b :: bs) (by simp)
    simp only [List.length_cons, readFrames] at hr ⊢
    cases hf : readFrame limit (b :: bs) <;> rw [hf] at hr <;> simp only [FrameRead.rest] at hr ⊢
    all_goals rw [readFrames_fuel limit bs.length _ _ (by omega) (Nat.le_refl _)]

/-- The verdicts on a line: that on its first frame, and those on what stands behind it, up to a frame that is taken. -/
theorem lineVerdicts_line (kind : PortKind) (raw : List Byte) :
    lineVerdicts kind raw =
      if judgeFrame kind (readFrame payloadLimit raw) = .taken then []
      else judgeFrame kind (readFrame payloadLimit raw) :: lineVerdicts kind (readFrame payloadLimit raw).rest := by
  unfold lineVerdicts
  rw [readFrames_line]
  cases h : readFrame payloadLimit raw with
  | noMarker => simp [judgeFrame]
  | failed t rest => simp [judgeFrame, FrameRead.rest]
  | frame t p rest =>
    simp only [List.map_cons, List.takeWhile_cons]
    by_cases hv : judgeFrame kind (.frame t p rest) = .taken <;> simp [hv]

/-- A command's type names the command. -/
@[simp] theorem supervisoryCommand_type (c : SupervisoryCommand) : supervisoryCommand c.type = some c := by
  cases c <;> rfl

/-- A type code that some command has is one that names a command. -/
theorem namesCommand_iff (b : Byte) : namesCommand b = (supervisoryCommand b).isSome := by
  revert b; decide +kernel

end Sys2Proof.Machine
end

