-- ==== Sys2Proof/Tests/Slice0.lean ====
section
/-! SUPPORT. Tests: an ill-formed command for each check; values worked out in spec/; and, for each statement with
hypotheses, a state and operands that meet them. -/

namespace Sys2Proof.Tests

open Sys2Proof Sys2Proof.Machine

-- The evaluations below run one after another: side by side they ask for more threads than a check may have.
set_option Elab.async false

/-! ### Ill-formed commands, which WellFormed refuses -/

theorem test_wellformed_word_too_long : (Instr.word 0 (List.replicate 97 65)).wellFormed = false := by decide

theorem test_wellformed_stamp_too_long : (Instr.stamp 7 (List.replicate 97 0)).wellFormed = false := by decide

theorem test_wellformed_event_too_long : (Instr.event (List.replicate 97 0)).wellFormed = false := by decide

theorem test_wellformed_pkg_cue_too_long :
    (Instr.pkgCue 1 ⟨0, 500, List.replicate 48 65, some (List.replicate 48 66), false⟩).wellFormed = false := by decide

theorem test_wellformed_unknown_type_names_command : (Instr.unknownCommandType 0x92).wellFormed = false := by decide

theorem test_wellformed_longest_payload_stands : (Instr.word 0 (List.replicate 96 65)).wellFormed = true := by decide

/-! ### The decoder: no row of the table gives bits -/

theorem test_decode_spells_none : decodeTableWord 8 0x80 = none := by decide

theorem test_fetch_word_changes_nothing : State.reset.withFetchWord 8 1 = State.reset := rfl

/-! ### Small states -/

/-- The state after a command. -/
def result (c : Instr) (s : State) : State :=
  match exec c s with
  | .next t => t
  | .fault _ => s
  | .refused _ => s

/-- A WRITER port with a group, a state and a window of samples. -/
def writer (g : Option Group) (l : LinkState) (w : List Int) : PortState :=
  { PortState.reset with
    par := { PortParams.reset with kind := .writer, group := g, region := ⟨0, 1⟩ }
    link := l
    lastHeard := some 352000
    silence := some 354000
    window := w
    marks := some (48, 16) }

/-- A SCRIPT port that is UP. -/
def script : PortState :=
  { PortState.reset with
    par := { PortParams.reset with kind := .script, region := ⟨1, 1⟩ }
    link := .up
    silence := some 354000
    marks := some (48, 16) }

/-- An enabled service that follows group 0. -/
def served : ServiceState :=
  { ServiceState.reset with
    par := { ServiceParams.reset with enabled := true, route := some 0, region := ⟨8, 1⟩ }
    liveRoute := some 0 }

/-- A part in RUN at SMC 354 000. P0 is on air in G0 and P1, P2 are READY and STANDBY members; P3 is in no group; P4 and P5
are SCRIPT ports; S0 and S1 follow G0. -/
def live : State :=
  { State.reset with
    mode := .run
    ref := { RefUnit.reset with smc := 354000 }
    ports := ⟨writer (some 0) .onAir [60, 50, 70, 80], writer (some 0) .ready [40, 41, 42, 43],
      writer (some 0) .standby [1, 2, 3], writer none .ready [0, 0, 0, 0], script, script, .reset, .reset⟩
    groups := (Per4.all GroupState.reset).set 0 { GroupState.reset with onAir := some 0, cut := some 300000 }
    services := ⟨served, served, .reset, .reset⟩
    poolRegion := ⟨12, 1⟩
    layout := some ⟨⟨some ⟨0, 1⟩, some ⟨0, 1⟩, some ⟨0, 1⟩, some ⟨0, 1⟩, some ⟨1, 1⟩, some ⟨1, 1⟩, none, none⟩,
      ⟨some ⟨8, 1⟩, some ⟨9, 1⟩, none, none⟩, some ⟨12, 1⟩⟩ }

/-- A boundary with nothing taken but the scheduler's work, its levels sampled first. -/
def plain : BoundaryOrder := ⟨[], [], 0⟩

/-- The supervisory unit with a transaction that may carry a command. -/
def carrying (s : State) : State := { s with sup := { s.sup with transaction := .carrying } }

/-- The bytes of a 32-bit field. -/
def field32 (n : Nat) : List Byte :=
  [BitVec.ofNat 8 (n / 16777216), BitVec.ofNat 8 (n / 65536), BitVec.ofNat 8 (n / 256), BitVec.ofNat 8 n]

/-! ### Values worked out in spec/ -/

/-- The check value of the digits 1 to 9 under the CRC of spec/12 R184 (its parameters are those of the common
CRC-16 with initial value all ones, whose published check value this is). -/
theorem test_crc_check_value : crc16 [0x31, 0x32, 0x33, 0x34, 0x35, 0x36, 0x37, 0x38, 0x39] = 0x29B1 := by decide +kernel

theorem test_frame_read_back : readFrame 96 (buildFrame 0x04 []) = .frame 0x04 [] [] := by decide +kernel

/-- spec/01 R14, Worked conversions: thirty frames, within a day. -/
def anchored30 : RefUnit :=
  { RefUnit.reset with state := .locked, rate := .fps30, smc := 500000, phase := 2, anchor := some ⟨1080000, 500000, 2⟩ }

theorem test_convert_152_frames : anchored30.convert ⟨10, 0, 5, 2, false⟩ = .converted 505067 := by decide

theorem test_convert_beyond_horizon : anchored30.convert ⟨10, 5, 0, 1, false⟩ = .range := by decide

theorem test_convert_one_frame_back : anchored30.convert ⟨9, 59, 59, 29, false⟩ = .immediate false := by decide

/-- spec/01 R14, Worked conversions: twenty-five frames, across midnight. -/
theorem test_convert_across_midnight :
    ({ RefUnit.reset with smc := 7000000, anchor := some ⟨2159995, 7000000, 0⟩ } : RefUnit).convert ⟨0, 0, 2, 0, false⟩ =
      .converted 7002200 := by decide

/-- spec/05 R82, the table of reading times: R = 15 and R = 8. -/
theorem test_reading_times :
    [5, 30, 64, 84].map (readingTime ServiceParams.reset) = [1200, 2000, 4267, 5600] ∧
      [5, 30, 64, 84].map (readingTime { ServiceParams.reset with readingRate := 8 }) = [1200, 3750, 6000, 6000] := by
  decide

/-- spec/05, Worked case: the snap at thirty and sixty frames. -/
theorem test_snap_thirty_frames :
    [1010, 1033, 1050, 1068].map ({ RefUnit.reset with rate := .fps30, smc := 1000, phase := 1 } : RefUnit).snap =
      [1033, 1033, 1067, 1100] := by decide

theorem test_snap_sixty_frames :
    [2040, 7040].map ({ RefUnit.reset with rate := .fps60, smc := 2000, phase := 2 } : RefUnit).snap = [2050, 7050] := by
  decide

/-- A placed word of a length, spoken at an SMC. -/
def spoken (n : Nat) (e : Smc) : PlacedWord := ⟨List.replicate n 65, 0, e, false⟩

/-- spec/05, Worked case: one cue from word to presentation time. n = 34 + 30 = 64. -/
def workedService : ServiceState :=
  { served with
    par := { served.par with delay := 6000 }
    queue := [⟨⟨1, 37, 2, [spoken 5 0], [], false⟩, 0, 4400, 20000, 0, false, false⟩] }

theorem test_worked_timing :
    let t := timeCue { RefUnit.reset with smc := 22400 } workedService
      ⟨2, 37, 2, [spoken 34 18810], [spoken 30 20000], false⟩ 22400
    (t.record.reading, t.record.present, t.record.lateness, t.record.lateClose, t.record.heldByPrevious, t.cut) =
      (4267, 24640, -170, false, false, false) := by decide

/-- spec/03, Worked sequence: a handover with held words. The windows' smallest samples are the offset estimates. -/
def relaying : State :=
  { live with
    ref := { RefUnit.reset with smc := 40000 }
    ports := (live.ports.set 2 { writer (some 1) .ready [-480000, -479000, -479000, -479000] with
      par := { (writer (some 1) .ready []).par with lag := 1200 } }).set 3
      (writer (some 1) .onAir [-300000, -299000, -299000, -299000])
    groups := live.groups.set 1 { GroupState.reset with failover := true, onAir := some 3 } }

theorem test_worked_handover :
    let t := result (.take 2) relaying
    t.group 1 = { GroupState.reset with
      failover := true, taking := some 2, yielding := some 3, cut := some 40000, grant := some 40000,
      yieldDeadline := some 44000 } ∧
    t.sent.ports.get 2 = [.takeAnswer .granted (some 521200), .state .taking 4] ∧
    t.sent.ports.get 3 = [.state .yielding 4] := by decide

/-- The same group at 41 440: the yielder's word of tick 341 100 is dropped and completes the handover. -/
theorem test_worked_cut_after :
    let s := (result (.take 2) relaying).setPort 3 { (result (.take 2) relaying).port 3 with
      queue := [.word ⟨341100, 40200, false, false, [65], false⟩] }
    let t := result (.wordRecordTake 3) { s with ref := { s.ref with smc := 41440 } }
    ((t.port 2).link, (t.port 3).link, (t.group 1).onAir, (t.group 1).cut) =
      (.onAir, .ready, some 2, some 40000) := by decide

/-- spec/03, Worked sequence: failover. P2 was last heard at 52 000 and is lost at 54 000. -/
theorem test_worked_failover :
    let s := { relaying with
      ref := { RefUnit.reset with smc := 54000 }
      ports := (relaying.ports.set 2 { relaying.port 2 with
        link := .onAir, lastHeard := some 52000, silence := some 54000 }).set 3 { relaying.port 3 with link := .ready }
      groups := relaying.groups.set 1 { relaying.group 1 with onAir := some 2, cut := some 40000 } }
    let t := result (.silenceDeadlineExpiry 2) s
    (t.group 1).onAir = some 3 ∧ (t.group 1).cut = some 52000 ∧ (t.group 1).grant = some 54000 ∧
      t.sent.ports.get 3 = [.takeAnswer .granted (some 353000), .state .onAir 4] := by decide

/-- spec/06, Worked example: a layout and its check, with a first block for S3, one for the pool and a count for P6. -/
def workedLayout (s3 pool p6 : Nat) : List Taken :=
  [⟨.port 0, ⟨0, 2⟩⟩, ⟨.port 1, ⟨2, 2⟩⟩, ⟨.port 2, ⟨4, 2⟩⟩, ⟨.port 3, ⟨6, 2⟩⟩, ⟨.port 4, ⟨8, 2⟩⟩, ⟨.port 5, ⟨10, 2⟩⟩] ++
    (if p6 = 0 then [⟨.port 6, ⟨0, 0⟩⟩] else []) ++
    [⟨.port 7, ⟨12, 4⟩⟩, ⟨.service 0, ⟨16, 8⟩⟩, ⟨.service 1, ⟨24, 8⟩⟩, ⟨.service 2, ⟨32, 8⟩⟩, ⟨.service 3, ⟨s3, 8⟩⟩,
      ⟨.pool, ⟨pool, 32⟩⟩]

theorem test_worked_layout :
    layoutCheck (workedLayout 40 48 1) = none ∧ layoutCheck (workedLayout 44 48 1) = some (.service 3, .overlap) ∧
      layoutCheck (workedLayout 40 230 1) = some (.pool, .bounds) ∧
      layoutCheck (workedLayout 40 48 0) = some (.port 6, .missing) := by decide

/-! ### Witnesses: the hypotheses of each statement, met by a state and operands, clause by clause

O1 and O5 to O13. -/

theorem test_witness_StepRunsFrontCommand :
    ({ live with pending := [.ready, .busy] } : State).pending = .ready :: [.busy] ∧ live.pending = [] := by decide

/-- `live` with a command waiting. -/
def stepped : State := { live with pending := [.busy] }

/-- `live` after that command. -/
def steppedTo : State := { live with inserter := .busy }

theorem test_witness_step : step stepped = .next steppedTo := rfl

theorem test_witness_StepKeepsCounterLaw : CounterLaw stepped := by unfold CounterLaw; decide

theorem test_witness_StepKeepsSizeLaw : SizeLaw stepped := by constructor <;> decide

theorem test_witness_StepKeepsRelayLaw : RelayLaw stepped := by
  constructor <;> (try unfold State.isMember) <;> decide

theorem test_witness_StepKeepsConfigIdle :
    ConfigIdle { State.reset with pending := [.busy] } ∧
      step { State.reset with pending := [.busy] } = .next { State.reset with inserter := .busy } := by
  refine ⟨⟨?_, ?_, ?_, ?_, ?_, ?_, ?_⟩, rfl⟩ <;> (try unfold PortState.idle) <;> (try unfold GroupState.idle) <;>
    (try unfold ServiceState.idle) <;> decide

theorem test_witness_StepKeepsBandLaw : BandLaw stepped := by
  refine ⟨by decide, by decide, fun k c h => ?_, fun k r h => ?_, fun k b h => ?_, fun k b r h => ?_, fun m h => ?_⟩
  · revert h; fin_cases k <;> intro h <;> cases h
  · revert h; fin_cases k <;> intro h <;> cases h
  · revert h; fin_cases k <;> intro h <;> cases h
  · revert h; fin_cases k <;> intro h <;> cases h
  · cases h

theorem test_witness_StepKeepsPackageLaw : PackageLaw stepped := by constructor <;> decide

theorem test_witness_StepKeepsStoreLaw : StoreLaw stepped := by constructor <;> decide

/-- O12 and O14: the three ways the SMC goes. -/
theorem test_witness_SmcMovesOnlyAtBoundaries :
    exec .ready live = .next live ∧ (result (.flywheelBoundary plain) State.reset).ref.smc = 40 ∧
      (result .powerOnReset live).ref.smc = 0 := ⟨rfl, by decide +kernel, by decide⟩

/-- O13. -/
theorem test_witness_ConfigSendsNothing :
    State.reset.mode = .config ∧ exec .busy State.reset = .next { State.reset with inserter := .busy } :=
  ⟨rfl, rfl⟩

/-- O14. -/
theorem test_witness_WatchersDoNotSteer : exec .busy live = .next { live with inserter := .busy } := rfl

/-! O15 to O24: the reference unit. -/

/-- A reference unit with a pulse at 0. -/
def pulsed (state : RefState) (origin : Option RefOrigin) (count : Nat) (history : List Nat) : RefUnit :=
  { RefUnit.reset with
    state := state, origin := origin, pulseRecord := some 1000, goodCount := count, history := history
    lastBoundary := some 1000 }

theorem test_witness_PulseOutsideLocked :
    ((pulsed .free none 0 []).pulseRecord = some 1000 ∧ 99 * (120000 : Nat) ≤ 100 * (119800 - 1000) ∧
      100 * (122200 - 1000) ≤ 101 * (120000 : Nat)) ∧
    (result (.referencePulse 119800 plain) { live with ref := pulsed .free none 0 [] }).ref.state = .qualifying ∧
    (result (.referencePulse 122200 plain) { live with ref := pulsed .holdover none 0 [] }).ref.origin = some .holdover ∧
    (result (.referencePulse 119799 plain) { live with ref := pulsed .free none 0 [] }).ref.state = .free ∧
    (result (.referencePulse 122201 plain) { live with ref := pulsed .holdover none 0 [] }).ref.state = .holdover ∧
    (result (.referencePulse 5 plain) State.reset).ref.pulseRecord = some 5 := by decide

/-- Qualifying, with the pulse that locks next, and the last boundary at a moment. -/
def qualified (count boundary : Nat) : State :=
  { live with ref := { pulsed .qualifying (some .free) count [120000] with lastBoundary := some boundary } }

theorem test_witness_PulseWhileQualifying :
    let s := qualified 63 61001
    (s.ref.state = .qualifying ∧ s.ref.pulseRecord = some 1000 ∧ s.ref.goodCount = 63 ∧ s.ref.lastBoundary = some 61001 ∧
      s.ref.origin = some .free ∧ s.ref.rate.nominal = 120000 ∧ 2 * 121000 < 2 * 61001 + 120000) ∧
    (qualified 63 61000).ref.lastBoundary = some 61000 ∧ 2 * 61000 + 120000 ≤ 2 * 121000 ∧
    (result (.referencePulse 121000 plain) (qualified 62 1000)).ref.goodCount = 63 ∧
    (result (.referencePulse 121000 plain) s).ref.smc = 0 ∧ (result (.referencePulse 121000 plain) s).ref.state = .locked ∧
    (result (.referencePulse 121000 plain) (qualified 63 61000)).ref.smc = 40 ∧
    (result (.referencePulse 1001 plain) s).ref.goodCount = 0 ∧ (result .missingPulse s).ref.state = .free ∧
    (result .missingPulse { live with ref := pulsed .qualifying (some .holdover) 5 [] }).ref.state = .holdover := by
  decide +kernel

theorem test_witness_PulseWhileLocked :
    let s : State := { live with ref := pulsed .locked (some .free) 64 [] }
    (s.ref.state = .locked ∧ s.ref.lastBoundary = some 1000 ∧ s.ref.pulseRecord = some 1000) ∧
    (result (.referencePulse 60999 plain) s).ref.smc = 0 ∧
    ((result (.referencePulse 61000 plain) s).ref.smc, (result (.referencePulse 61000 plain) s).ref.history) = (40, []) ∧
    ((result (.referencePulse 121000 plain) s).ref.smc, (result (.referencePulse 121000 plain) s).ref.history) =
      (40, [120000]) := by decide +kernel

/-- A locked unit whose 16 intervals are equal. -/
def steady : State := { live with ref := pulsed .locked (some .free) 64 (List.replicate 16 120000) }

theorem test_witness_LossOfReference :
    steady.ref.state = .locked ∧ steady.ref.pulseRecord = some 1000 ∧ steady.ref.lastBoundary = some 1000 ∧
      steady.ref.history.length = 16 := by decide

theorem test_witness_FlywheelBoundary :
    let h : State := { State.reset with ref := { RefUnit.reset with state := .holdover, holdoverPeriod := some 120001 } }
    let q : State := { h with ref := { h.ref with state := .qualifying, origin := some .holdover } }
    (h.ref.flywheel = some 120000 ∧ q.ref.holdoverPeriod = some 120001) ∧
    (result (.flywheelBoundary plain) h).ref.flywheel = some 240001 ∧
    (result (.flywheelBoundary plain) q).ref.flywheel = some 240001 ∧
    (State.reset.ref.flywheel = some 120000 ∧ State.reset.ref.state = .free) ∧
    (10000 * (119616 : Nat) : Int) = 120000 * (10000 + -32) ∧ (10000 * (120372 : Nat) : Int) = 120000 * (10000 + 31) ∧
    (result (.flywheelBoundary plain) { State.reset with ref := { RefUnit.reset with trim := -32 } }).ref.flywheel =
      some 239616 ∧
    (result (.flywheelBoundary plain) { State.reset with ref := { RefUnit.reset with trim := 31 } }).ref.flywheel =
      some 240372 ∧
    ({ RefUnit.reset with flywheel := none } : RefUnit).flywheel = none := by decide +kernel

/-- A part whose counter 0 samples the cue queue of S0, which holds one cue due at the next boundary, and whose S0 has a
switch that ends live captions due there too. -/
def sampling : State :=
  { live with
    counters := live.counters.set 0 { Counter.reset with event := some .cueQueueLevel }
    services := ⟨{ served with
        queue := [⟨⟨1, 37, 2, [⟨[65], 0, 0, false⟩], [], false⟩, 0, 1200, 354040, 0, false, false⟩]
        switches := [⟨354040, .brk, false⟩] }, .reset, .reset, .reset⟩ }

/-- The sample stands where the order puts it: before everything it counts the cue that the boundary's commit or the
boundary's switch takes from the queue, and behind either it counts none (spec/06, Worked example: a queue emptied by the
switch at 96 000 is sampled 0 at that boundary). -/
theorem test_sample_stands_in_its_place :
    let sampled (o : BoundaryOrder) : Nat := ((sampling.frameBoundary 7 o).counters.get 0).value
    sampled plain = 1 ∧ sampled ⟨[], [], 3⟩ = 0 ∧ sampled ⟨[[.switches 0]], [], 0⟩ = 1 ∧
    sampled ⟨[[.switches 0]], [], 1⟩ = 0 ∧ sampled ⟨[], [.switches 0], 9⟩ = 0 := by decide +kernel

/-- The premises of the clauses on a boundary: the mode, the inserter, holdover, and what stands at the head of a queue. -/
theorem test_witness_FrameBoundaryAdvances :
    let s : State := { live with ref := { RefUnit.reset with state := .qualifying, origin := some .holdover } }
    (live.mode = .run ∧ State.reset.mode = .config ∧ live.inserter = .ready) ∧
    (s.ref.state = .qualifying ∧ s.ref.origin = some .holdover ∧ live.ref.state ≠ .holdover) ∧
    (live.port 0).queue = [] ∧
    ((({ s with counters := s.counters.set 0 { Counter.reset with event := some .holdoverFrames } } : State).advanceBoundary
      7).counters.get 0).value = 1 ∧
    (sampling.advanceBoundary 7).ref.smc = 354040 ∧
    ((sampling.advanceBoundary 7).service 0).switches = [⟨354040, .brk, true⟩] ∧
    (((live.setPort 0 { live.port 0 with queue := [.retract 1 0] }).port 0).queue = .retract 1 0 :: []) := by
  decide +kernel

theorem test_witness_FrameLabelMovesAnchor :
    let s : State := { live with ref := { anchored30 with anchor := none } }
    let t : State := { live with ref := anchored30 }
    (result (.frameLabel true ⟨23, 59, 59, 29, false⟩) s).ref.anchor = some ⟨2591999, 500000, 2⟩ ∧
    (result (.frameLabel true ⟨24, 0, 0, 0, false⟩) s).ref.anchor = none ∧
    (result (.frameLabel false ⟨1, 0, 0, 0, false⟩) s).ref.anchor = none ∧
    (result (.frameLabel true ⟨10, 0, 0, 0, true⟩) t).ref.anchor = none ∧
    (result (.frameLabel true ⟨10, 0, 0, 0, false⟩) t).ref.anchor = some ⟨1080000, 500000, 2⟩ ∧
    (result (.frameLabel true ⟨10, 0, 0, 1, false⟩) t).ref.anchor = some ⟨1080001, 500000, 2⟩ ∧
    (result (.frameLabel true ⟨10, 0, 0, 1, false⟩) { live with ref := { anchored30 with state := .holdover } }).ref =
      { anchored30 with state := .holdover } := by decide

theorem test_witness_SnapIsFirstPredictedBoundary :
    later 1001 ({ RefUnit.reset with smc := 1000 } : RefUnit).smc = true ∧
      later 1000 ({ RefUnit.reset with smc := 1000 } : RefUnit).smc = false := by decide

/-- The hypotheses of the third clause at 0, at a day's half either way, and at the horizon: 7500 frames of 40 ms. -/
theorem test_witness_LabelConversion :
    let u : RefUnit := { RefUnit.reset with anchor := some ⟨1080000, 0, 0⟩ }
    u.convert ⟨12, 0, 0, 0, false⟩ = .immediate false ∧ u.convert ⟨0, 0, 0, 0, false⟩ = .immediate false ∧
    u.convert ⟨12, 5, 0, 0, false⟩ = .converted 300000 ∧ u.convert ⟨12, 5, 0, 1, false⟩ = .range ∧
    u.convert ⟨12, 0, 0, 1, true⟩ = .immediate true ∧ u.convert ⟨12, 0, 60, 0, false⟩ = .range ∧
    RefUnit.reset.convert ⟨0, 0, 0, 0, false⟩ = .immediate true ∧
    (∃ z : Int, (-1080000 : Int) = (0 : Nat) - (1080000 : Nat) + z * (86400 * (25 : Nat))) ∧
    (∃ z : Int, (7500 : Int) = (1087500 : Nat) - (1080000 : Nat) + z * (86400 * (25 : Nat))) := by
  refine ⟨by decide, by decide, by decide, by decide, by decide, by decide, by decide, ⟨0, by decide⟩, ⟨0, by decide⟩⟩

/-! O24 to O31: contributor links. -/

/-- `live` with one port replaced. -/
def withPort (p : Port) (x : PortState) : State := live.setPort p x

/-- A WORD record of tick 400 000 that arrived at 354 000. -/
def aWord : IntakeRecord := .word ⟨400000, 354000, false, false, [65], false⟩

theorem test_witness_LinkRefresh :
    (live.port 0).link ≠ .offline ∧ ((withPort 0 (writer none .offline [])).port 0).link = .offline ∧
      ((withPort 4 { script with link := .offline }).port 4).par.kind = .script := by decide

theorem test_witness_FramesByPortKind :
    (live.port 6).par.kind = .unused ∧ (live.port 0).par.kind = .writer ∧ (live.port 4).par.kind = .script ∧
    readFrame 96 [0xA5, 97, 1] = .failed (some 1) [97, 1] ∧
    readFrame 96 (buildFrame 0x7F []) = .frame 0x7F [] [] ∧ contributorType 0x7F = none ∧
    readFrame 96 (buildFrame 0x02 [1, 2, 3]) = .frame 0x02 [1, 2, 3] [] ∧
    readFrame 96 (buildFrame 0x04 []) = .frame 0x04 [] [] ∧ readFrame 96 [1, 2] = .noMarker ∧
    96 < (List.replicate 97 (0 : Byte)).length ∧ (List.replicate 96 (0 : Byte)).length ≤ 96 ∧
    live.mode = .run ∧ ({ live with mode := .config } : State).mode = .config := by decide +kernel

/-- The premises on the frame itself: no marker before it, a length within the limit, and a check value that disagrees. -/
theorem test_witness_FramesByPortKind_codec :
    (∀ b ∈ ([1, 2] : List Byte), b ≠ 0xA5#8) ∧ ([0] : List Byte).length ≤ 96 ∧ crc16 [0, 4] ≠ 0 ∧
    readFrame 96 ([1, 2] ++ buildFrame 0x04 [] ++ [7]) = .frame 0x04 [] [7] ∧
    readFrame 96 [1, 2, 0xA5, 0, 4, 0, 0, 7] = .failed (some 4) [0, 4, 0, 0, 7] ∧
    (96 < (97 : Byte).toNat ∧ ([] : List Byte).length < (0 : Byte).toNat + 2) ∧
    readFrame 96 [0xA5, 0, 4, 9] = .failed (some 4) [0, 4, 9] := by decide +kernel

/-- LINK_ERRORS on counter 0 after a stretch of P0's line (spec/12 R184, The frame): the receiver looks for the next
marker after a failing frame, and finds the failing frames behind it; a good TAKE is not counted. -/
theorem test_search_goes_on_behind_a_failure :
    let errors (raw : List Byte) : Nat := ((result (.contributorFrameFailure 0 raw) { live with
      counters := live.counters.set 0 { Counter.reset with event := some .linkErrors } }).counters.get 0).value
    errors [0xA5, 0, 4, 0, 0] = 1 ∧ errors [0xA5, 0, 4, 0, 0, 0xA5, 0, 4, 0, 0] = 2 ∧
      errors ([0xA5, 0, 4, 0, 0] ++ buildFrame 0x7F [] ++ [1]) = 2 ∧
      errors ([0xA5, 0, 4, 0, 0] ++ buildFrame 0x04 []) = 1 ∧ errors [1, 2] = 0 := by decide +kernel

/-- A WORD payload of `n` letters. -/
def wordOf (n : Nat) : List Byte := field32 400000 ++ [3] ++ List.replicate n 65

theorem test_witness_WordIntake :
    (live.mode = .run ∧ (live.port 0).par.kind = .writer) ∧ ([1, 2, 3, 4] : List Byte).length < 5 ∧
    (([9, 10] : Text).filter fun c => 32 ≤ c.toNat) = [] ∧ (List.replicate 31 (65 : Byte)).length ≤ 91 ∧
    ((result (.word 0 (wordOf 31)) live).port 0).queue =
      [.word ⟨400000, 354000, true, true, List.replicate 31 65, false⟩] ∧
    ((result (.word 0 (wordOf 32)) live).port 0).queue =
      [.word ⟨400000, 354000, true, true, List.replicate 31 65, true⟩] ∧
    ((result (.word 0 (wordOf 0 ++ [31])) live).port 0).queue = [] := by decide +kernel

theorem test_witness_RecordIntake :
    (live.mode = .run ∧ (live.port 0).par.kind = .writer ∧ (live.port 4).par.kind = .script) ∧
    ((result (.retract 0 9) live).port 0).queue = [.retract 8 354000] ∧
    ((result (.retract 0 0) live).port 0).queue = [] ∧
    ((result (.pkgOpen 4 1 255) live).port 4).queue = [.pkgOpen 1 255] ∧
    ((result (.pkgOpen 4 1 256) live).port 4).queue = [] ∧ ((result (.pkgOpen 4 0 1) live).port 4).queue = [] ∧
    ((result (.pkgClose 4 65535) live).port 4).queue = [.pkgClose 65535] ∧
    ((result (.pkgDrop 4 0) live).port 4).queue = [] := by decide +kernel

/-- A PKG-CUE whose first row is dropped: the second becomes the first (spec/02 R23). -/
theorem test_pkg_cue_repaired :
    repairPkgCue ⟨600001, 499, [7], some (List.replicate 43 66), true⟩ =
        some ⟨600000, 500, List.replicate 42 66, none, true⟩ ∧
      repairPkgCue ⟨0, 10001, [65], some [10], false⟩ = some ⟨0, 10000, [65], none, false⟩ ∧
      repairPkgCue ⟨0, 500, [31], none, false⟩ = none ∧
      repairPkgCue ⟨5, 600, [65], some [66], false⟩ = some ⟨5, 600, [65], some [66], false⟩ := by decide +kernel

/-- P0 with `n` words queued and a flow state. -/
def queued (n : Nat) (flow : FlowState) : State :=
  withPort 0 { writer (some 0) .onAir [50, 50, 50, 50] with
    queue := List.replicate n aWord, flow := flow
    refresh := match flow with | .held => some 354000 | .flowing => none }

theorem test_witness_PushRecord :
    (queued 0 .flowing).intakeCapacity 0 = 64 ∧ ((queued 0 .flowing).port 0).marks = some (48, 16) ∧
    (((queued 46 .flowing).push 0 aWord).port 0).flow = .flowing ∧
    (((queued 47 .flowing).push 0 aWord).port 0).refresh = some 354500 ∧
    (((queued 63 .held).push 0 aWord).port 0).queue.length = 64 ∧
    (((queued 64 .held).push 0 aWord).port 0).queue.length = 64 ∧
    (((queued 64 .held).push 0 (.retract 1 0)).alerts.get 3).flag = true := by decide +kernel

theorem test_witness_HoldRefreshAndResume :
    ((queued 17 .held).port 0).flow = .held ∧ ((queued 17 .held).port 0).refresh = some 354000 ∧
    (((queued 17 .held).removeHead 0).port 0).flow = .flowing ∧
    (((queued 18 .held).removeHead 0).port 0).flow = .held ∧
    (((queued 18 .flowing).removeHead 0).port 0).queue.length = 17 ∧
    ((result (.refreshDeadlineExpiry 0) (queued 17 .held)).port 0).refresh = some 354500 ∧
    ((result (.refreshDeadlineExpiry 0)
      { queued 17 .held with ref := { RefUnit.reset with smc := 353999 } }).port 0).refresh = some 354000 := by
  decide +kernel

theorem test_witness_StampJoinsWindow :
    (live.port 2).link = .standby ∧ (live.port 2).window.length = 3 ∧
    ((result (.stamp 2 (field32 354010)) live).port 2).link = .ready ∧
    ((result (.stamp 2 (field32 354010)) live).port 2).window = [1, 2, 3, -10] ∧
    ((result (.stamp 2 (field32 0)) (withPort 2 (writer none .standby [1, 2]))).port 2).link = .standby ∧
    ((result (.stamp 0 (field32 353999)) (withPort 0 (writer none .ready (List.replicate 16 5)))).port 0).window =
      List.replicate 15 5 ++ [1] ∧
    ((result (.stamp 2 [0, 0, 0]) live).port 2).window = [1, 2, 3] := by decide +kernel

/-- A handover in G0 from P0 to P1. -/
def handing : State :=
  { live with
    ports := (live.ports.set 0 { live.port 0 with link := .yielding }).set 1 { live.port 1 with link := .taking }
    groups := live.groups.set 0 { GroupState.reset with
      taking := some 1, yielding := some 0, cut := some 353000, grant := some 353000, yieldDeadline := some 357000 } }

theorem test_witness_LossOfLink :
    let f : State := live.setGroup 0 { live.group 0 with failover := true }
    ((live.port 0).silence = some 354000 ∧ (live.port 0).par.group = some 0 ∧ (live.port 0).link = .onAir ∧
      (live.group 0).failover = false) ∧
    ((handing.port 1).link = .taking ∧ (handing.group 0).yielding = some 0 ∧ (handing.port 0).link = .yielding ∧
      (handing.group 0).taking = some 1) ∧
    ((f.group 0).failover = true ∧ (f.port 1).link = .ready ∧ (f.port 0).lastHeard = some 352000) ∧
    ((result (.silenceDeadlineExpiry 1) live).port 1).link = .offline ∧
    ((result (.silenceDeadlineExpiry 0)
      { live with ref := { RefUnit.reset with smc := 353999 } }).port 0).link = .onAir ∧
    (((result (.silenceDeadlineExpiry 1) handing).group 0).onAir,
      ((result (.silenceDeadlineExpiry 1) handing).group 0).cut) = (some 0, none) ∧
    (((result (.silenceDeadlineExpiry 0) handing).group 0).onAir,
      ((result (.silenceDeadlineExpiry 0) handing).group 0).cut) = (some 1, some 353000) ∧
    ((result (.silenceDeadlineExpiry 0) live).group 0).onAir = none ∧
    ((result (.silenceDeadlineExpiry 0) f).group 0).onAir = some 1 := by decide +kernel

/-- The lowest-numbered READY member of G0 is P1. -/
theorem test_witness_LossOfLink_members :
    live.isMember 1 0 ∧ (∀ r : Port, r < 1 → live.isMember r 0 → (live.port r).link ≠ .ready) ∧
      (∀ q : Port, (live.setPort 1 { live.port 1 with link := .standby }).isMember q 0 →
        ((live.setPort 1 { live.port 1 with link := .standby }).port q).link ≠ .ready) := by
  unfold State.isMember; decide +kernel

/-! O32 to O35: relay groups. -/

/-- The answer that P1, P2 or P0 last received. -/
def lastSent (p : Port) (s : State) : Option PortMsg := (s.sent.ports.get p).getLast?

theorem test_witness_TakeDecision :
    let idle : State := live.setGroup 0 GroupState.reset
    (live.mode = .run ∧ (live.port 1).par.kind = .writer ∧ (live.port 1).par.group = some 0 ∧
      (live.group 0).onAir = some 0 ∧ (live.group 0).taking = none ∧ (40 : Int) ∈ (live.port 1).window ∧
      (∀ x ∈ (live.port 1).window, 40 ≤ x) ∧ (idle.group 0).onAir = none) ∧
    lastSent 3 (result (.take 3) live) = some (.takeAnswer .noGroup none) ∧
    lastSent 2 (result (.take 2) live) = some (.takeAnswer .notReady none) ∧
    lastSent 0 (result (.take 0) live) = some (.takeAnswer .already none) ∧
    lastSent 2 (result (.take 2) (handing.setPort 2 (writer (some 0) .ready [0, 0, 0, 0]))) =
      some (.takeAnswer .busy none) ∧
    (result (.take 1) idle).sent.ports.get 1 = [.takeAnswer .granted (some 354960), .state .onAir 4] ∧
    ((result (.take 1) live).group 0).taking = some 1 := by decide +kernel

theorem test_witness_ReleaseDecision :
    (live.mode = .run ∧ (live.port 0).par.kind = .writer ∧ (live.port 0).par.group = some 0 ∧
      (live.port 1).link = .ready ∧ (handing.port 0).link = .yielding ∧ (live.service 0).liveRoute = some 0 ∧
      (live.service 2).liveRoute ≠ some 0) ∧
    lastSent 1 (result (.release 1) live) = some (.releaseAnswer false) ∧
    ((result (.release 0) live).group 0).onAir = none ∧ ((result (.release 0) live).group 0).cut = some 300000 ∧
    ((result (.release 0) handing).group 0).onAir = some 1 := by decide +kernel

theorem test_witness_HandoverCompletes :
    let late : State := { handing with ref := { RefUnit.reset with smc := 357000 } }
    ((handing.group 0).taking = some 1 ∧ (handing.group 0).yielding = some 0 ∧
      (handing.group 0).yieldDeadline = some 357000 ∧ (live.group 0).yieldDeadline = none) ∧
    ((result (.yieldDeadlineExpiry 0) late).group 0).onAir = some 1 ∧
    ((result (.yieldDeadlineExpiry 0) { handing with ref := { RefUnit.reset with smc := 356999 } }).group 0).onAir =
      none := by decide +kernel

theorem test_witness_AgedTimesBecomeAbsent :
    let aged : State := { live with
      ref := { RefUnit.reset with smc := 300000 + 2 ^ 30 }
      services := live.services.set 0 { served with liveStart := some 300000, lastChange := some 300000 } }
    let young : State := { aged with ref := { RefUnit.reset with smc := 299999 + 2 ^ 30 } }
    ((aged.group 0).cut = some 300000 ∧ (2 ^ 30 : Int) ≤ (aged.ref.smc - 300000).toInt) ∧
    ((result (.cutTimeAged 0) aged).group 0).cut = none ∧ ((result (.cutTimeAged 0) young).group 0).cut = some 300000 ∧
    ((result (.liveStartAged 0) aged).service 0).liveStart = none ∧
    ((result (.liveStartAged 0) young).service 0).liveStart = some 300000 ∧
    ((result (.lastChangeAged 0) aged).service 0).lastChange = none ∧
    ((result (.lastChangeAged 0) young).service 0).lastChange = some 300000 := by decide +kernel

/-! O36 to O43: words and cues. -/

/-- A WORD record of a tick that arrived at 354 000. -/
def tickWord (t : BitVec 32) : WordRecord := ⟨t, 354000, false, false, [65], false⟩

/-- P0's offset estimate is 50 and its listening lag 1000, so a tick of 354 950 was spoken at 354 000. -/
theorem test_witness_SpeechEstimate :
    ((50 : Int) ∈ (live.port 0).window ∧ ∀ x ∈ (live.port 0).window, 50 ≤ x) ∧
    [354951, 354950, 334950, 334949].map (fun t => live.speechFor 0 (tickWord t)) =
      [354000, 354000, 334000, 334000] ∧
    (live.staleEvent 0 (tickWord 334950) = live) ∧
    0 < (((354951 : Smc) + 50 - 1000) - 354000).toInt ∧ (((334949 : Smc) + 50 - 1000) - 334000).toInt < 0 := by
  decide +kernel

/-- A part with one WORD of a tick at the head of a port's queue, and the cut at 353 000. -/
def taking (s : State) (p : Port) (t : BitVec 32) : State :=
  (s.setPort p { s.port p with queue := [.word (tickWord t)] }).setGroup 0 { s.group 0 with cut := some 353000 }

theorem test_witness_WordTake :
    (((taking live 0 353950).port 0).queue = .word (tickWord 353950) :: [] ∧ (live.port 0).link = .onAir ∧
      (live.port 0).par.group = some 0 ∧ (live.port 1).link = .ready ∧ (handing.port 0).link = .yielding ∧
      (handing.port 1).link = .taking) ∧
    ((result (.wordRecordTake 1) (taking live 1 353950)).port 1).queue = [] ∧
    ((result (.wordRecordTake 1) (taking handing 1 353950)).port 1).queue.length = 1 ∧
    ((result (.wordRecordTake 0) (taking live 0 353950)).service 0).openCue.isSome = true ∧
    ((result (.wordRecordTake 0) (taking live 0 353949)).service 0).openCue = none ∧
    ((result (.wordRecordTake 0) (taking handing 0 353949)).service 0).openCue.isSome = true ∧
    ((result (.wordRecordTake 0) (taking handing 0 353949)).group 0).onAir = none ∧
    ((result (.wordRecordTake 0) (taking handing 0 353950)).group 0).onAir = some 1 ∧
    ((result (.wordRecordTake 0) ((taking live 0 0).setGroup 0 { live.group 0 with cut := none })).service
      0).openCue.isSome = true := by decide +kernel

/-- A word of `n` letters on its way into the cues. -/
def admitted (n : Nat) (speaker sentence : Bool) : AdmittedWord := ⟨spoken n 353500, speaker, sentence⟩

/-- An open cue of width 37 with words of these lengths in its rows. -/
def openOf (formed : Nat) (r1 r2 : List Nat) : OpenCue :=
  ⟨⟨7, 37, formed, r1.map (spoken · 353000), r2.map (spoken · 353000), false⟩, 353000, 354000⟩

/-- `live` with an open cue on S0, which alone follows G0. -/
def opened (o : OpenCue) : State :=
  { live with services := ⟨{ served with openCue := some o, cueCounter := 7 }, .reset, .reset, .reset⟩ }

theorem test_witness_WordPlaced :
    let s := opened (openOf 2 [10, 11] [])
    (s.service 0).liveRoute = some 0 ∧ (∀ j : Service, j ≠ 0 → (s.service j).liveRoute ≠ some 0) ∧
    (∀ k : Service, (({ live with services := Per4.all .reset } : State).service k).liveRoute ≠ some 0) ∧
    (s.service 0).segCurrent = .live ∧
    (openOf 2 [10, 11] []).body.fit 14 = .row1 ∧ (openOf 2 [10, 11] []).body.fit 15 = .row2 ∧
    (openOf 1 [10, 11] []).body.fit 15 = .overflow ∧ (openOf 2 [] []).body.fit 31 = .row1 ∧
    (openOf 2 [30] [10, 11]).body.fit 14 = .row2 ∧ (openOf 2 [30] [10, 11]).body.fit 15 = .overflow ∧
    ((s.placeIn 0 (admitted 5 true false)).1.service 0).cueCounter = 8 ∧
    ((s.placeIn 0 (admitted 5 false false)).1.service 0).cueCounter = 7 ∧
    (((opened (openOf 1 [10, 11] [])).placeIn 0 (admitted 15 false false)).1.service 0).queue.length = 1 ∧
    (((opened (openOf 2 [10] [])).placeIn 0 (admitted 6 false true)).1.service 0).openCue.isSome = true ∧
    (((opened (openOf 2 [10] [])).placeIn 0 (admitted 7 false true)).1.service 0).openCue = none ∧
    (result (.wordRecordTake 0) { (taking s 0 354950) with
      services := s.services.set 0 { s.service 0 with segCurrent := .brk } }).service 0 =
        { s.service 0 with segCurrent := .brk } := by decide +kernel

/-- S0 and S1 follow G0: one history entry holds both placements, S0's first (spec/04 R67). -/
theorem test_witness_WordPlaced_twice :
    let t := live.fanOut 0 0 (admitted 5 false false)
    (allServices.filter fun k => decide ((live.service k).liveRoute = some 0)) = [0, 1] ∧
    (t.port 0).history = [[⟨0, 1, 1, 1, .amendable⟩, ⟨1, 1, 1, 1, .amendable⟩]] ∧
    (({ live with services := live.services.set 1 { served with segCurrent := .brk } } : State).fanOut 0 0
      (admitted 5 false false) |>.port 0).history = [[⟨0, 1, 1, 1, .amendable⟩]] := by decide +kernel

theorem test_witness_ReflowNeverOverflows :
    let b := (openOf 2 [18, 18] [36]).body
    b.rowsFit ∧ b.formed ∧ 1 < b.words.length ∧ ((b.remove 0).row1.length, (b.remove 0).row2.length) = (1, 1) ∧
      ((openOf 2 [20] [16]).body.formed → False) := by
  refine ⟨⟨by decide, by decide, by decide⟩, ?_, by decide, by decide +kernel, ?_⟩
  · unfold CueBody.formed; decide +kernel
  · unfold CueBody.formed; decide +kernel

/-- A part whose S0 has that cue open and a cue of one word queued. -/
def texts : State :=
  { live with
    services := ⟨{ served with
        openCue := some (openOf 2 [18, 18] [36])
        queue := [⟨(openOf 2 [5] []).body, 0, 1200, 360000, 0, false, false⟩] }, .reset, .reset, .reset⟩
    pending := [.busy] }

theorem test_witness_ReflowNeverOverflows_step : TextLaw texts ∧ step texts = .next { texts with
    inserter := .busy, pending := [] } := by
  refine ⟨⟨fun k o h => ?_, fun k c h => ?_⟩, rfl⟩
  · fin_cases k
    · obtain rfl : openOf 2 [18, 18] [36] = o := by
        have := h; simpa [texts, State.service, Per4.get] using this
      exact ⟨by decide, ⟨by decide, by decide, by decide⟩, by unfold CueBody.formed; decide +kernel⟩
    all_goals cases h
  · fin_cases k
    · obtain rfl : c = ⟨(openOf 2 [5] []).body, 0, 1200, 360000, 0, false, false⟩ := by
        have := h; simpa [texts, State.service, Per4.get] using this
      exact ⟨by decide, ⟨by decide, by decide, by decide⟩, by unfold CueBody.formed; decide +kernel⟩
    all_goals cases h

/-- S0's open cue of two words from P0, a RETRACT in P0's queue, and P0's history of those words. -/
def retracting (k : Nat) (st : PlacementState) : State :=
  (opened (openOf 2 [3, 4] [])).setPort 0 { live.port 0 with
    queue := [.retract k 354000]
    history := [[⟨0, 7, 1, 1, st⟩], [⟨0, 7, 1, 2, .amendable⟩]] }

theorem test_witness_RetractAnswered :
    ((retracting 3 .amendable).mode = .run ∧ (live.port 0).link ≠ .taking ∧
      ((retracting 3 .amendable).port 0).queue = .retract 3 354000 :: [] ∧
      (handing.port 1).link = .taking ∧ ({ live with mode := .config } : State).mode = .config) ∧
    lastSent 0 (result (.retractRecordTake 0) (retracting 3 .amendable)) = some (.retractAnswer 2 1 .noHistory) ∧
    lastSent 0 (result (.retractRecordTake 0) (retracting 2 .amendable)) = some (.retractAnswer 2 0 .none) ∧
    lastSent 0 (result (.retractRecordTake 0) (retracting 2 .committed)) = some (.retractAnswer 1 1 .tooLate) ∧
    ((result (.retractRecordTake 0) (retracting 2 .amendable)).service 0).openCue = none ∧
    (((retracting 1 .amendable).removePlaced ⟨0, 7, 1, 1, .amendable⟩).service 0).openCue =
      some { openOf 2 [4] [] with idleDeadline := 354000 } := by decide +kernel

/-- A cue of 30 and 33 characters queued on S0 behind another, and P0's history of its two words. -/
def retractingQueued : State :=
  { live with
    services := ⟨{ served with queue := [⟨⟨6, 37, 2, [spoken 5 0], [], false⟩, 0, 1200, 355000, 0, false, false⟩,
      ⟨⟨7, 37, 2, [spoken 30 0], [spoken 33 0], false⟩, 0, 4200, 360000, 0, false, false⟩] }, .reset, .reset, .reset⟩
    ports := live.ports.set 0 { live.port 0 with history := [[⟨0, 7, 1, 1, .amendable⟩], [⟨0, 7, 2, 1, .amendable⟩]] } }

/-- spec/04 R71 with the formula of spec/05 R82: 30 characters at 15 a second read in 2000 ms, 33 in 2200; P stays. -/
theorem test_witness_RetractAnswered_queued :
    let times (s : State) : List (Nat × Smc) := (s.service 0).queue.map fun c => (c.reading, c.present)
    let e := State.retractLoop 0 2 0 retractingQueued
    (e.removed, e.reason, times e.state, (e.state.port 0).history) = (2, .none, [(1200, 355000)], []) ∧
    times (State.retractLoop 0 1 0 retractingQueued).state = [(1200, 355000), (2000, 360000)] ∧
    times (retractingQueued.removePlaced ⟨0, 7, 1, 1, .amendable⟩) = [(1200, 355000), (2200, 360000)] ∧
    ((retractingQueued.removePlaced ⟨0, 7, 1, 1, .amendable⟩).port 0).history =
      [[⟨0, 7, 1, 1, .amendable⟩], [⟨0, 7, 1, 1, .amendable⟩]] ∧
    times (retractingQueued.removePlaced ⟨0, 8, 1, 1, .amendable⟩) = [(1200, 355000), (4200, 360000)] := by
  decide +kernel

/-- S0 with an open cue whose target is 353 000 + 6000 − 200, and a tail presented at `t` and held 4000 ms. -/
def closing (t : Smc) : ServiceState :=
  { served with
    par := { served.par with delay := 6000 }
    openCue := some (openOf 2 [10] [])
    cueCounter := 7
    queue := [⟨⟨6, 37, 2, [spoken 5 0], [], false⟩, 0, 4000, t, 0, false, false⟩] }

/-- S0 of `live` after its open cue closes. -/
def closedNow (v : ServiceState) : ServiceState :=
  (State.closeCue { live with services := live.services.set 0 v } 0).service 0

/-- The cue at the tail of the queue after the close. -/
def tail (v : ServiceState) : Option (Smc × Nat × Int × Bool) :=
  (closedNow v).queue.getLast?.map fun c => (c.present, c.reading, c.lateness, c.heldByPrevious)

theorem test_witness_CueClose :
    ((closing 0).openCue = some (openOf 2 [10] []) ∧ (live.service 0).openCue = none) ∧
    (live.ref.smc, (openOf 2 [10] []).idleDeadline) = (354000, 354000) ∧
    tail (closing 350000) = some (358800, 1200, -200, false) ∧
    tail (closing 354720) = some (358800, 1200, -200, false) ∧
    tail (closing 354721) = some (358840, 1200, -160, true) ∧
    tail { closing 350000 with liveStart := some 360001 } = some (360040, 1200, 1040, false) := by decide +kernel

theorem test_idle_deadline_at_its_boundary :
    ((result (.idleDeadlineExpiry 0) (opened (openOf 2 [10] []))).service 0).openCue = none ∧
      ((result (.idleDeadlineExpiry 0)
        { opened (openOf 2 [10] []) with ref := { RefUnit.reset with smc := 353999 } }).service 0).openCue.isSome =
          true := by decide +kernel

/-- Phase and cut test at their limits. -/
theorem test_witness_CueClose_phase_and_cut :
    (closedNow (closing 357920)).phase = .normal ∧
    (closedNow (closing 357921)).phase = .catchup ∧
    tail { closing 350000 with switches := [⟨358800, .brk, true⟩] } = some (350000, 4000, 0, false) ∧
    tail { closing 350000 with switches := [⟨358801, .brk, true⟩] } = some (358800, 1200, -200, false) ∧
    tail { closing 350000 with kindInForce := .brk, switches := [⟨358800, .live, true⟩] } =
      some (358800, 1200, -200, false) ∧
    tail { closing 350000 with kindInForce := .brk, switches := [⟨358801, .live, true⟩] } =
      some (350000, 4000, 0, false) := by decide +kernel

/-- A closed cue with an id. -/
def closed (id : CueId) : CueRecord := ⟨⟨id, 37, 2, [spoken 5 0], [], false⟩, 0, 1200, 360000, 0, false, false⟩

/-- S0 with `n` cues queued. -/
def stocked (n : Nat) : State :=
  { live with services := live.services.set 0 { served with queue := closed 1 :: List.replicate (n - 1) (closed 2) } }

theorem test_witness_CueInsertion :
    live.queueCapacity 0 = 64 ∧ ((stocked 63).service 0).queue.length = 63 ∧
    (((stocked 63).insertCue 0 (closed 3)).service 0).queue.length = 64 ∧
    (((stocked 63).insertCue 0 (closed 3)).service 0).queue.head? = some (closed 1) ∧
    (((stocked 64).insertCue 0 (closed 3)).service 0).queue.length = 64 ∧
    (((stocked 64).insertCue 0 (closed 3)).service 0).queue.head? = some (closed 2) ∧
    (((stocked 64).insertCue 0 (closed 3)).alerts.get 4).flag = true := by decide +kernel

theorem test_witness_CuesJoinInOrder :
    let s : State := { live with services := live.services.set 0 (closing 354720) }
    (s.service 0).queue.getLast?.map CueRecord.present = some 354720 ∧ (s.service 0).liveStart = none ∧
    (1 ≤ 4000 + (s.service 0).par.gap ∧ 4000 + (s.service 0).par.gap ≤ 2 ^ 20) ∧
    (-(2 ^ 29) ≤ ((354720 : Smc) - s.ref.smc).toInt ∧ ((354720 : Smc) - s.ref.smc).toInt ≤ 2 ^ 29) ∧
    (-(2 ^ 29) ≤ ((openOf 2 [10] []).body.anchor - s.ref.smc).toInt ∧
      ((openOf 2 [10] []).body.anchor - s.ref.smc).toInt ≤ 2 ^ 29) ∧
    (s.service 0).par.delay ≤ 12000 ∧ (s.service 0).par.lead ≤ 1000 ∧ (s.service 0).par.closeMargin ≤ 1000 := by
  decide +kernel

/-- The premises of the close clause, and what it gives there: the queue of `closing` and the cue that joins it. -/
theorem test_witness_CuesJoinInOrder_close :
    let s : State := { live with services := live.services.set 0 (closing 354720) }
    (s.service 0).rising ∧ (s.service 0).queue.map CueRecord.reading = [4000] ∧
    (1 ≤ (s.service 0).par.catchupFloor ∧ (s.service 0).par.catchupFloor ≤ 2 ^ 19 ∧ (s.service 0).par.gap ≤ 2 ^ 19) ∧
    ((s.closeCue 0).service 0).queue.map CueRecord.present = [354720, 358800] := by
  unfold ServiceState.rising; decide +kernel

/-! O44 to O49: output and placement. -/

/-- A SHOWING display with a band and a clear deadline. -/
def onScreen (b : Band) (deadline : Option Smc) : Display :=
  .showing ⟨5, none, b, 353000, deadline, 353000, 1200, some 347000, false⟩

/-- S0 as given, everything else as in `live`. -/
def serving (v : ServiceState) : State := { live with services := live.services.set 0 v }

/-- A committed live cue of `n` characters on one row, spoken at 347 000. -/
def committedLive (n : Nat) (mark : Bool) : Committed :=
  ⟨.live ⟨⟨9, 37, 2, [spoken n 347000], [], false⟩, 350000, 1200, 353000, 0, false, false⟩, ⟨14, 1⟩, false, mark⟩

/-- A committed prepared cue of `n` characters on one row. -/
def committedPrepared (n : Nat) (mark : Bool) : Committed :=
  ⟨.prepared ⟨3, 2, List.replicate n 65, none, 900, 353000, false, false⟩, ⟨14, 1⟩, false, mark⟩

theorem test_witness_DisplayRequestsAndSends :
    let shown := onScreen ⟨14, 1⟩ (some 354000)
    ((live.service 0).display = .blank ∧
      ((serving { served with display := shown }).service 0).display = shown) ∧
    ((result (.clearDeadlineExpiry 0) (serving { served with display := shown })).service 0).control = .clear ∧
    ((result (.clearDeadlineExpiry 0) (serving { served with
      display := onScreen ⟨14, 1⟩ (some 354001) })).service 0).control = .none ∧
    ((result (.clearDeadlineExpiry 0) (serving { served with
      display := onScreen ⟨14, 1⟩ none })).service 0).control = .none ∧
    ((serving { served with display := shown, control := .clear }).sendControl 0).sent.output = [.clear 0] ∧
    ((serving { served with display := shown, control := .move ⟨2, 1⟩ }).sendControl 0).sent.output =
      [.move 0 ⟨2, 1⟩] ∧
    (((live.sendShow 0 (committedLive 5 false)).service 0).shownLateness = some 7000) ∧
    (((live.sendShow 0 (committedPrepared 5 false)).service 0).shownLateness = none) ∧
    (((serving { served with rowMap := ⟨some ⟨13, 15⟩, none, none, none⟩ }).sendShow 0
      (committedLive 5 true)).service 0).control = .move ⟨2, 1⟩ ∧
    (((serving { served with rowMap := ⟨some ⟨13, 15⟩, none, none, none⟩ }).sendShow 0
      (committedPrepared 5 true)).service 0).control = .move ⟨2, 1⟩ := by decide +kernel

/-- The premises on the cue on screen and on B_L, with a queue behind it; and those of the commit and of the send. -/
theorem test_witness_CuesJoinInOrder_screen :
    let v : ServiceState := { closing 354720 with display := onScreen ⟨14, 1⟩ none, liveStart := some (354000 - 2 ^ 30) }
    let s : State := { live with services := live.services.set 0 v }
    v.behindShown ∧ v.previous = some (354720, 4000) ∧ 0 ≤ (s.ref.smc - 353000).toInt ∧
    -(2 ^ 30 + 2 ^ 20) ≤ (((354000 : Smc) - 2 ^ 30) - s.ref.smc).toInt ∧
    ((s.closeCue 0).service 0).queue.map CueRecord.present = [354720, 358800] ∧
    s.preparedPart 0 = [] ∧ ((s.commitStep 0).service 0).queue.map CueRecord.present = [354720] ∧
    (∀ x ∈ (s.service 0).queue, 0 < (x.present - s.ref.smc).toInt) := by
  refine ⟨?_, by decide +kernel, by decide, by decide, by decide +kernel, rfl, by decide +kernel, by decide⟩
  rintro r h c hc
  obtain rfl := Display.showing.inj h
  revert c
  decide

/-- The bytes of a SHOW, from the table of spec/12 (SHOW): service, cue id, source, top row, height, flags, length and
text of row 1, and of row 2 where the height is 2. -/
theorem test_show_bytes :
    (OutputMsg.showCue 2 0x0102 none ⟨14, 1⟩ true false [72, 105] none).frame =
      some (buildFrame 0x40 [2, 1, 2, 0, 0, 14, 1, 1, 2, 72, 105]) ∧
    (OutputMsg.showCue 3 5 (some 0x0304) ⟨13, 2⟩ false true [72] (some [79, 75])).frame =
      some (buildFrame 0x40 [3, 0, 5, 3, 4, 13, 2, 2, 1, 72, 2, 79, 75]) ∧
    (OutputMsg.clear 0).frame = none := by decide +kernel

theorem test_witness_InserterAnswers :
    ({ live with busyCount := 25 } : State).busyCount = 25 ∧ live.busyCount ≠ 25 ∧ live.inserter = .ready ∧
      ({ live with inserter := .busy, busyCount := 24 } : State).inserter = .busy ∧
      ((result .outputStalled { live with busyCount := 25 }).alerts.get 6).flag = true ∧
      ((State.account { live with inserter := .busy, busyCount := 24 }).alerts.get 6).flag = true ∧
      ((State.account { live with inserter := .busy, busyCount := 23 }).alerts.get 6).flag = false ∧
      (State.account { live with busyCount := 7 }).busyCount = 0 := by decide +kernel

theorem test_witness_OutputWithinBudget :
    let s : State := serving { served with committed := some (committedLive 37 false) }
    96 ≤ s.budget ∧ Instr.flywheelBoundary plain ≠ .stop ∧ s.ref.flywheel.isSome = true ∧
      ((result (.flywheelBoundary plain) s).sent.output.map OutputMsg.cost).sum = 45 ∧
      (result (.flywheelBoundary plain) { s with inserter := .busy }).sent.output = [] := by decide +kernel

/-- The state and budget that step 4 leaves for S0, with a committed cue of `n` characters. -/
def servedBy (n left deficit : Nat) (wrr : Bool) : Nat × Nat :=
  let x : Sending := ⟨serving { served with committed := some (committedLive n false), deficit := deficit }, left⟩
  let y := if wrr then x.wrr 0 else x.strict 0
  (y.budget, (y.state.service 0).deficit)

theorem test_witness_CaptionsServed :
    (live.service 0).committed = none ∧
    servedBy 20 28 0 false = (0, 0) ∧ servedBy 20 27 0 false = (27, 0) ∧
    servedBy 24 32 0 true = (0, 0) ∧ servedBy 25 160 0 true = (160, 32) ∧ servedBy 24 31 0 true = (31, 32) ∧
    servedBy 20 28 500 true = (0, 484) ∧
    (live.schedMode = .strict ∧ ({ live with schedMode := .wrr } : State).schedMode = .wrr) := by decide +kernel

/-- S0 asks for CLEAR and S1 has a committed cue of 20 characters and a pending MOVE: step 3 sends the CLEAR and passes the
MOVE over (spec/07 R117); step 4 sends the SHOW. In WRR, with S0 served last, S1 is served before S0 (R119). -/
theorem test_witness_CaptionsServed_order :
    let shown := onScreen ⟨14, 1⟩ none
    let both : Per4 ServiceState := ⟨{ served with display := shown, control := .clear },
      { served with display := shown, control := .move ⟨2, 1⟩, committed := some (committedLive 20 false) }, .reset, .reset⟩
    let s : State := { live with services := both }
    let w : State := { live with
      schedMode := .wrr, roundRobin := 0
      services := ⟨{ served with committed := some (committedLive 20 false) },
        { served with committed := some (committedLive 21 false) }, .reset, .reset⟩ }
    let sent (u : State) : State := (Sending.captions (Sending.controls ⟨u, 0⟩)).state
    let costs (u : State) : List Nat := (sent u).sent.output.map OutputMsg.cost
    ((Sending.control ⟨s, 160⟩ 0).budget, (Sending.control ⟨s, 160⟩ 1).budget) = (156, 160) ∧
    costs s = [4, 28] ∧ costs w = [29, 28] ∧ costs { w with roundRobin := 3 } = [28, 29] ∧
    costs { w with schedMode := .strict } = [28, 29] ∧ (sent w).roundRobin = 0 ∧
    costs { s with inserter := .busy } = [] := by decide +kernel

/-- A live cue queued for an SMC. -/
def due (id : CueId) (t : Smc) : CueRecord := ⟨⟨id, 37, 2, [spoken 5 0], [], false⟩, 0, 1200, t, 0, false, false⟩

/-- A package of two prepared cues, the second 1000 ms in and wider than S0's rows. -/
def aPackage (st : LoadState) (p : Option Port) : PackageRecord :=
  ⟨3, st, 2, [⟨0, 900, [65], none, false⟩, ⟨1000, 900, List.replicate 38 65, none, false⟩], p⟩

/-- S0 as given, with that package in slot 0. -/
def playing (v : ServiceState) : State := { serving v with packages := some (aPackage .ready none) :: List.replicate 31 none }

theorem test_witness_CommitStep :
    let q : PlayPointer := ⟨3, 2, 353040⟩
    let both := playing { served with pointer := some ⟨3, 1, 353040⟩, queue := [due 1 354040, due 2 354041] }
    ((playing { served with pointer := some q }).findPackage 3 = some (aPackage .ready none) ∧
      (aPackage .ready none).cues.drop (q.pos - 1) = [⟨1000, 900, List.replicate 38 65, none, false⟩]) ∧
    (((serving { served with queue := [due 1 354040] }).commitStep 0).service 0).committed.isSome = true ∧
    (((serving { served with queue := [due 1 354041] }).commitStep 0).service 0).committed = none ∧
    (((serving { served with queue := [due 1 354000, due 2 354040, due 3 354041] }).commitStep 0).service 0).queue =
      [due 3 354041] ∧
    (((playing { served with pointer := some q }).commitStep 0).service 0).pointer = some { q with pos := 3 } ∧
    (((playing { served with pointer := some { q with switch := 353041 } }).commitStep 0).service 0).pointer =
      some { q with switch := 353041 } ∧
    (both.dueSequence 0).map Due.present = [354000, 354040, 354040, 354041] ∧
    ((both.commitStep 0).service 0).queue = [due 2 354041] ∧
    ((both.commitStep 0).service 0).pointer = some ⟨3, 3, 353040⟩ := by decide +kernel

/-- A live cue that is due while a package plays, with a later one behind it: it is committed, and the play stands. A
prepared cue of two rows that is due with a later one behind it: its pointer moves one place on. -/
theorem test_witness_CommitStep_beside :
    let both := playing { served with pointer := some ⟨3, 1, 360000⟩, queue := [due 1 354000, due 2 354041] }
    let first := playing { served with pointer := some ⟨3, 1, 354040⟩, queue := [due 2 354041] }
    let live := (both.commitStep 0).service 0
    let prepared := (first.commitStep 0).service 0
    (live.queue, live.pointer) = ([due 2 354041], some ⟨3, 1, 360000⟩) ∧
    live.committed.map Committed.source = some (.live (due 1 354000)) ∧
    (prepared.queue, prepared.pointer) = ([due 2 354041], some ⟨3, 2, 354040⟩) ∧
    prepared.committed.map Committed.source = some (.prepared ⟨3, 1, [65], none, 900, 354040, false, false⟩) := by
  decide +kernel

/-- spec/10 R164: with the drop between the commit and step 4 of a boundary the committed prepared cue is cut, with it
before the commit none is committed, and both give the same screen; behind the work the cue is on screen already. -/
theorem test_drop_at_the_commit :
    let s := (playing { served with pointer := some ⟨3, 1, 354040⟩ }).setPort 4 { live.port 4 with queue := [.pkgDrop 3] }
    let w : State := { s with counters := live.counters.set 0 { Counter.reset with event := some .cueCut } }
    let outcome (o : BoundaryOrder) : Bool × Bool × Nat :=
      let t := w.frameBoundary 7 o
      ((t.service 0).display == .blank, (t.service 0).committed.isSome, (t.counters.get 0).value)
    outcome ⟨[[.take 4]], [], 0⟩ = (true, false, 0) ∧ outcome ⟨[[], [], [], [.take 4]], [], 0⟩ = (true, false, 1) ∧
    outcome ⟨[], [.take 4], 0⟩ = (false, false, 0) := by decide +kernel

theorem test_witness_BandsAndStraps :
    let map (r1 r2 : Nat) : Per4 (Option Strap) := ⟨none, none, some ⟨r1, r2⟩, none⟩
    let v (r1 r2 : Nat) : ServiceState := { served with rowMap := map r1 r2, display := onScreen ⟨14, 1⟩ none }
    (v 15 15).place 1 = (⟨14, 1⟩, false) ∧ (v 13 13).place 2 = (⟨2, 2⟩, false) ∧ (v 3 13).place 2 = (⟨13, 2⟩, true) ∧
    (live.service 0).display = .blank ∧
    (((serving (v 15 15)).coverCheck 0).service 0).control = .none ∧
    (((serving (v 14 15)).coverCheck 0).service 0).control = .move ⟨2, 1⟩ ∧
    (((serving { v 14 15 with control := .clear }).coverCheck 0).service 0).control = .clear ∧
    (((serving (v 2 14)).coverCheck 0).service 0).control = .none := by decide +kernel

/-! O50 to O54: automation and packages. -/

/-- An EVENT payload of tag 0x0102 for S0, its label 10:00:00:00. -/
def eventOf (kind service : Byte) (body : List Byte) : List Byte := [1, 2, kind, service, 10, 0, 0, 0, 0] ++ body

/-- What the automation link last sent. -/
def answered (payload : List Byte) (s : State) : Option Answer := (result (.event payload) s).sent.automation.getLast?

theorem test_witness_EventAnswered :
    let anchored : State := { live with ref := anchored30 }
    let fill (n : Nat) : State := { live with events := List.replicate n ⟨400000, 0, .route none, true⟩ }
    (live.mode = .run ∧ (live.service 0).par.enabled = true ∧ (live.service 2).par.enabled = false) ∧
    readEvent (eventOf 3 0 [255]) = some ⟨0, ⟨10, 0, 0, 0, false⟩, .route none, false⟩ ∧
    readEvent (eventOf 9 0 [255]) = none ∧
    RefUnit.reset.convert ⟨10, 0, 0, 0, false⟩ = .immediate true ∧
    answered (eventOf 3 0 [255]) live = some ⟨0x0102, .accepted 354000 true⟩ ∧
    answered (eventOf 3 2 [255]) live = some ⟨0x0102, .range⟩ ∧
    answered (eventOf 9 0 [255]) live = some ⟨0x0102, .range⟩ ∧ answered [1] live = some ⟨0, .range⟩ ∧
    answered (eventOf 4 0 [0x2E, 0xE1]) live = some ⟨0x0102, .clamped 354000 true⟩ ∧
    answered (eventOf 1 0 [2, 0, 3]) live = some ⟨0x0102, .missing 354000 true⟩ ∧
    answered (eventOf 3 0 [255]) (fill 31) = some ⟨0x0102, .accepted 354000 true⟩ ∧
    answered (eventOf 3 0 [255]) (fill 32) = some ⟨0x0102, .full⟩ ∧
    answered [1, 2, 3, 0, 10, 0, 5, 2, 0, 255] anchored = some ⟨0x0102, .accepted 505067 false⟩ ∧
    answered (eventOf 3 0 [255]) State.reset = none ∧
    (eventOf 1 0 [2, 0, 3]).length ≤ 96 ∧ 96 < (List.replicate 97 (0 : Byte)).length := by decide +kernel

theorem test_witness_ListsKeepOrder :
    let e (t : Smc) (k : Service) : PendingEvent := ⟨t, k, .route none, false⟩
    let w (t : Smc) : SwitchEntry := ⟨t, .live, false⟩
    [e 1 0, e 2 0].IsChain (fun a b => 0 ≤ (b.effect - a.effect).toInt) ∧
      [w 1, w 2].IsChain (fun a b => 0 ≤ (b.switch - a.switch).toInt) ∧ insertSwitch (w 1) [w 1, w 2] = [w 1, w 1, w 2] ∧
      insertEvent (e 1 1) [e 1 0, e 2 0] = [e 1 0, e 1 1, e 2 0] := by decide +kernel

/-- A switch entry that has seen a boundary. -/
def switchAt (t : Smc) (b : SwitchBody) : SwitchEntry := ⟨t, b, true⟩

theorem test_witness_EffectsApplied :
    let four : State := serving { served with switches := List.replicate 4 (switchAt 360000 .live) }
    let three : State := serving { served with switches := List.replicate 3 (switchAt 360000 .live) }
    ((live.service 0).liveRoute = some 0 ∧ (four.service 0).switches.length = 4) ∧
    (result .effectTimeExpiry { live with events := [⟨354000, 0, .delay 40, true⟩] }).events = [] ∧
    (result .effectTimeExpiry { live with events := [⟨354001, 0, .delay 40, true⟩] }).events.length = 1 ∧
    (result .effectTimeExpiry { live with events := [⟨354000, 0, .delay 40, false⟩] }).events.length = 1 ∧
    ((live.applyEvent ⟨354000, 0, .route (some 1), true⟩).service 0).liveRoute = some 1 ∧
    (three.joinSwitch 0 (switchAt 361000 .brk)).service 0 =
      { served with switches := List.replicate 3 (switchAt 360000 .live) ++ [switchAt 361000 .brk] } ∧
    ((four.joinSwitch 0 (switchAt 361000 .brk)).service 0).switches =
      List.replicate 3 (switchAt 360000 .live) ++ [switchAt 361000 .brk] ∧
    ((four.joinSwitch 0 (switchAt 361000 .brk)).service 0).lastSwitch = some ⟨.live, 360000, false⟩ := by decide +kernel

theorem test_witness_SwitchesApplied :
    let q : PlayPointer := ⟨3, 2, 353040⟩
    let busy : State := playing { served with pointer := some q, committed := some (committedPrepared 5 false) }
    let stock : State := playing { served with queue := [due 1 353999, due 2 354000] }
    ((busy.service 0).pointer = some q ∧ (live.service 0).pointer = none ∧
      busy.findPackage 3 = some (aPackage .ready none) ∧ live.findPackage 3 = none) ∧
    ((result (.switchTimeExpiry 0) (serving { served with switches := [switchAt 354000 .brk] })).service 0).kindInForce =
      .brk ∧
    ((result (.switchTimeExpiry 0) (serving { served with switches := [switchAt 354001 .brk] })).service 0).kindInForce =
      .live ∧
    ((busy.endPlay 0).service 0).committed = none ∧
    ((State.endPlay (playing { served with pointer := some { q with package := 4 }
                                           committed := some (committedPrepared 5 false) }) 0).service 0).committed =
      some (committedPrepared 5 false) ∧
    ((State.applySwitch 0 stock (switchAt 354000 (.package 3 0))).service 0).queue = [due 1 353999] ∧
    ((State.applySwitch 0 stock (switchAt 354000 (.package 3 0))).service 0).pointer = some ⟨3, 1, 354000⟩ ∧
    ((State.applySwitch 0 stock (switchAt 354000 (.package 4 0))).service 0).lastSwitch =
      some ⟨.package, 354000, true⟩ ∧
    ((State.applySwitch 0 stock (switchAt 354000 .live)).service 0).liveStart = some 354000 := by decide +kernel

/-- `live` with records in P4's queue, a load context of P4, and the table's first slot. -/
def scripted (records : List IntakeRecord) (load : LoadContext) (slot : Option PackageRecord) : State :=
  { withPort 4 { script with queue := records, load := load } with packages := slot :: List.replicate 31 none }

/-- What P4 last received, and its load context. -/
def loaded (s : State) : Option PortMsg × LoadContext := (lastSent 4 s, (s.port 4).load)

theorem test_witness_PackageRecords_open :
    let full : List (Option PackageRecord) :=
      (List.range 32).map fun i => some ⟨BitVec.ofNat 16 (i + 100), .ready, 1, [], none⟩
    ((scripted [.pkgOpen 3 2] .idle none).mode = .run ∧ (live.port 4).link ≠ .taking) ∧
    loaded (result (.pkgOpenTake 4) (scripted [.pkgOpen 3 2] .idle none)) = (none, .loading 3) ∧
    loaded (result (.pkgOpenTake 4) (scripted [.pkgOpen 5 2] (.loading 3) (some (aPackage .loading (some 4))))) =
      (some (.packageAnswer 3 (.failed .count 2)), .loading 5) ∧
    loaded (result (.pkgOpenTake 4) (scripted [.pkgOpen 3 2] (.ignoring 7) (some (aPackage .ready none)))) =
      (none, .loading 3) ∧
    loaded (result (.pkgOpenTake 4) (scripted [.pkgOpen 3 2] .idle (some (aPackage .loading (some 5))))) =
      (some (.packageAnswer 3 .busy), .ignoring 3) ∧
    loaded (result (.pkgOpenTake 4) { scripted [.pkgOpen 3 2] .idle none with packages := full }) =
      (some (.packageAnswer 3 (.failed .full 0)), .ignoring 3) ∧
    ((result (.pkgOpenTake 4) { (scripted [.pkgOpen 3 2] .idle (some (aPackage .ready none))) with
      services := live.services.set 0 { served with pointer := some ⟨3, 1, 0⟩ } }).port 4).queue.length = 1 := by
  decide +kernel

theorem test_witness_PackageRecords_cue :
    let cue (o : Nat) : IntakeRecord := .pkgCue ⟨o, 900, [65], none, false⟩
    let mine : PackageRecord := aPackage .loading (some 4)
    let more : PackageRecord := { mine with declared := 3 }
    loaded (result (.pkgCueTake 4) (scripted [cue 1001] .idle none)) = (none, .idle) ∧
    loaded (result (.pkgCueTake 4) (scripted [cue 1001] (.ignoring 3) none)) = (none, .ignoring 3) ∧
    loaded (result (.pkgCueTake 4) (scripted [cue 1001] (.loading 3) (some mine))) =
      (some (.packageAnswer 3 (.failed .count 2)), .ignoring 3) ∧
    loaded (result (.pkgCueTake 4) (scripted [cue 1000] (.loading 3) (some more))) =
      (some (.packageAnswer 3 (.failed .order 2)), .ignoring 3) ∧
    loaded (result (.pkgCueTake 4) (scripted [cue 1001] (.loading 3) (some more))) = (none, .loading 3) ∧
    loaded (result (.pkgCueTake 4) { scripted [cue 1001] (.loading 3) (some more) with layout := none }) =
      (some (.packageAnswer 3 (.failed .full 2)), .ignoring 3) := by decide +kernel

theorem test_witness_PackageRecords_close_and_drop :
    let mine : PackageRecord := aPackage .loading (some 4)
    let after (r : IntakeRecord) (load : LoadContext) (slot : Option PackageRecord) : Option PortMsg × LoadContext :=
      loaded (result (match r with | .pkgClose _ => .pkgCloseTake 4 | _ => .pkgDropTake 4) (scripted [r] load slot))
    after (.pkgClose 3) (.loading 3) (some mine) = (some (.packageAnswer 3 (.loaded 2)), .idle) ∧
    after (.pkgClose 3) (.loading 3) (some { mine with declared := 3 }) =
      (some (.packageAnswer 3 (.failed .count 2)), .idle) ∧
    after (.pkgClose 3) (.ignoring 3) none = (none, .idle) ∧
    after (.pkgClose 3) .idle none = (some (.packageAnswer 3 .unknown), .idle) ∧
    after (.pkgDrop 3) (.ignoring 3) none = (some (.packageAnswer 3 .unknown), .idle) ∧
    after (.pkgDrop 3) (.loading 3) (some mine) = (some (.packageAnswer 3 .dropped), .idle) ∧
    after (.pkgDrop 3) .idle (some (aPackage .loading (some 5))) = (some (.packageAnswer 3 .busy), .idle) ∧
    after (.pkgDrop 3) .idle (some (aPackage .ready none)) = (some (.packageAnswer 3 .dropped), .idle) ∧
    (((playing { served with pointer := some ⟨3, 1, 0⟩ }).dropPackage 4 3).service 0).pointer = none ∧
    (allServices.filter fun k => decide (∃ q, ((playing { served with pointer := some ⟨3, 1, 0⟩ }).service k).pointer =
      some q ∧ q.package = 3)) = [0] ∧
    (live.plays 1 3 = false ∧ (playing { served with pointer := some ⟨3, 1, 0⟩ }).plays 0 3 = true) := by decide +kernel

/-! O55 to O60: counters, alerts and the supervisory link. -/

/-- A counter on an event with a threshold and a value. -/
def counting (e : EventKind) (threshold value : Nat) : Counter :=
  { Counter.reset with event := some e, threshold := threshold, value := value }

/-- `live` with counter 0 as given. -/
def counted (c : Counter) : State := { live with counters := live.counters.set 0 c }

theorem test_witness_OccurrenceReachesCounters :
    let value (c : Counter) (o : Occurrence) : Nat := (((counted c).raise o).counters.get 0).value
    let late : Occurrence := ⟨.latenessMs, none, some 0, none, 500⟩
    value (counting .wordAccepted 0 0) ⟨.wordAccepted, some 0, some 0, none, 0⟩ = 1 ∧
    value (counting .wordAccepted 9 0) ⟨.wordAccepted, some 0, some 0, none, 0⟩ = 1 ∧
    value { counting .wordAccepted 0 0 with services := Per4.all false } ⟨.wordAccepted, some 0, some 0, none, 0⟩ = 0 ∧
    value { counting .wordDropped 0 0 with causes := { CauseSet.full with empty := false } }
      ⟨.wordDropped, some 0, none, some .empty, 0⟩ = 0 ∧
    value (counting .latenessMs 0 3) late = 503 ∧ value (counting .latenessMs 500 3) late = 4 ∧
    value (counting .latenessMs 501 3) late = 3 ∧
    (counting .latenessMs 0 4294967290).add 4 = counting .latenessMs 0 4294967294 ∧
    (counting .latenessMs 0 4294967290).add 5 = { counting .latenessMs 0 4294967295 with saturated := true } ∧
    ((((counted (counting .wordAccepted 0 4294967294)).raise
      ⟨.wordAccepted, none, none, none, 0⟩).alerts.get 7).sources.get 0) = true ∧
    ((((stocked 9).sampleLevels).counters.get 0).value) = 0 ∧
    (((State.sampleLevels { stocked 9 with
      counters := live.counters.set 0 (counting .cueQueueLevel 0 0) }).counters.get 0).value) = 9 := by decide +kernel

/-- The last response of the command, once it has finished: its type and code. -/
def reply (c : Instr) (s : State) : Option (Byte × Code) := (result c s).sup.executing.map fun r => (r.type, r.code)

theorem test_witness_CounterAndAlertCommands :
    let f : SelectionFields := ⟨.event .handover, .members .full, .members (Per4.all true), .members (Per8.all true),
      4294967295⟩
    (carrying live).sup.transaction = .carrying ∧
    reply (.counterSelect 7 f) (carrying live) = some (0x86, .ok) ∧
    reply (.counterSelect 8 f) (carrying live) = some (0x86, .range) ∧
    reply (.counterSelect 0 { f with threshold := 4294967296 }) (carrying live) = some (0x86, .range) ∧
    reply (.counterSelect 0 { f with event := .outsideTable }) (carrying live) = some (0x86, .range) ∧
    reply (.counterSelect 0 { f with causes := .outsideRange }) (carrying live) = some (0x86, .range) ∧
    reply (.counterSelect 0 { f with services := .outsideRange }) (carrying live) = some (0x86, .range) ∧
    reply (.counterSelect 0 { f with ports := .outsideRange }) (carrying live) = some (0x86, .range) ∧
    ((result (.counterSelect 0 { f with event := .noEvent }) (carrying (counted (counting .handover 0 5)))).counters.get
      0).value = 0 ∧
    reply (.counterClear 8) (carrying live) = some (0x87, .range) ∧
    ((result (.counterClear 0) (carrying (counted (counting .handover 0 5)))).counters.get 0).value = 0 ∧
    ((result (.counterRead ((Per8.all false).set 1 true)) (carrying (counted (counting .handover 0 5)))).counters.get
      0).value = 5 ∧
    reply .alertStatus (carrying live) = some (0x89, .ok) ∧
    (result (.alertEnable (Per8.all true)) (carrying ((live.setAlert .refLost none)))).attention = true ∧
    (result (.alertClear (Per8.all true)) (carrying ((live.setAlert .refLost none)))).alerts = Per8.all .reset := by
  decide +kernel

/-- The bytes of a supervisory frame of type 0x82 with a wrong check value, and its first two bytes. -/
def badFrame : List Byte := [0xA5, 0, 0x82, 0, 0]

theorem test_witness_Transactions :
    let done : Response := ⟨0x89, .ok, false, 354000, .none⟩
    let executing : State := { live with sup := { live.sup with executing := some done } }
    let waiting : State := { live with sup := { live.sup with buffer := some done, ready := true, overrun := true } }
    (executing.sup.executing = some done ∧ live.sup.executing = none ∧
      readFrame 255 badFrame = .failed (some 0x82) (badFrame.drop 1) ∧
      readFrame 255 (badFrame.take 2) = .failed none ((badFrame.take 2).drop 1) ∧ readFrame 255 [1, 2] = .noMarker ∧
      (0x93 : Byte).toNat > 0x92 ∧ (0x7F : Byte).toNat < 0x80) ∧
    (result .transactionStart executing).sup = { executing.sup with overrun := true, transaction := .discarding } ∧
    (result .responseReady executing).sup.buffer = some done ∧ (result .responseReady executing).sup.ready = true ∧
    (result .transactionStart waiting).sup = { live.sup with transaction := .carrying } ∧
    (result .transactionStart waiting).sent.spi = [some done] ∧
    reply (.commandCheckFailed badFrame) (carrying live) = some (0x82, .check) ∧
    reply (.unknownCommandType 0x93) live = some (0x93, .unknown) ∧
    reply .start { executing with sup := { executing.sup with transaction := .discarding } } = some (0x89, .ok) := by
  decide +kernel

theorem test_witness_Transactions_check_failed :
    let dropping : State := { live with sup := { live.sup with transaction := .discarding } }
    readFrame 255 (buildFrame 0x89 []) = .frame 0x89 [] [] ∧
    (live.sup.transaction = .none ∧ dropping.sup.transaction = .discarding) ∧
    reply (.commandCheckFailed badFrame) live = some (0x82, .check) ∧
    (result (.commandCheckFailed badFrame) dropping).sup = { dropping.sup with transaction := .none } ∧
    (result (.commandCheckFailed (badFrame.take 2)) dropping).freeIndex = dropping.freeIndex + 1 := by decide +kernel

/-- The type codes of the table of spec/12 (Message types). -/
theorem test_type_codes :
    ([.state .ready 4, .hold 500, .resume, .takeAnswer .already none, .releaseAnswer true, .retractAnswer 1 0 .none,
      .packageAnswer 3 .busy] : List PortMsg).map PortMsg.type = [0x20, 0x21, 0x22, 0x23, 0x24, 0x25, 0x26] ∧
    (eventType, (⟨0, .range⟩ : Answer).type) = (0x30, 0x31) ∧
    ([.clear 0, .move 0 ⟨2, 1⟩] : List OutputMsg).map OutputMsg.type = [0x41, 0x42] ∧
    (inserterAnswer 0x48, inserterAnswer 0x49, inserterAnswer 0x40) = (some .ready, some .busy, none) ∧
    (SupervisoryCommand.start.type, SupervisoryCommand.packageStatus.type) = (0x82, 0x92) ∧
    (supervisoryCommand 0x7F, supervisoryCommand 0x85, supervisoryCommand 0x93) = (none, some .flushService, none) := by
  decide

theorem test_witness_StatusReads :
    reply (.parameterRead 24 1 0) (carrying live) = some (0x80, .unknown) ∧
    reply (.parameterRead 1 1 0) (carrying live) = some (0x80, .ok) ∧
    reply .referenceStatus (carrying live) = some (0x8C, .ok) ∧
    reply (.portStatus 7) (carrying live) = some (0x8D, .ok) ∧ reply (.portStatus 8) (carrying live) = some (0x8D, .range) ∧
    reply (.groupStatus 3) (carrying live) = some (0x8E, .ok) ∧ reply (.groupStatus 4) (carrying live) = some (0x8E, .range) ∧
    reply (.serviceStatus 3) (carrying live) = some (0x8F, .ok) ∧
    reply (.serviceStatus 4) (carrying live) = some (0x8F, .range) ∧
    reply .layoutStatus (carrying live) = some (0x90, .ok) ∧ reply .automationStatus (carrying live) = some (0x91, .ok) ∧
    reply .packageStatus (carrying live) = some (0x92, .ok) ∧
    resolve 24 1 0 = .error .unknown ∧ resolve 1 1 0 = .ok .frameRate ∧ resolve 22 1 13 = .error .range ∧
    (17, 10) ∉ [(17, 9)] ∧ resolve 17 10 0 = .error .unknown ∧
    2159999 < 86400 * Rate.fps25.fps ∧ labelOfFrame 2159999 .fps25 = ⟨23, 59, 59, 24, false⟩ := by decide +kernel

theorem test_witness_ParameterWrites :
    let config : State := carrying State.reset
    let held : State := carrying (queued 40 .held)
    (config.mode = .config ∧ Rate.fps30 ≠ config.ref.rate ∧ (10000 * (100000 : Nat) : Int) = 100000 * (10000 + 0) ∧
      live.schedMode ≠ .wrr ∧ (256 : Nat) ≠ config.poolRegion.count ∧ (live.service 0).par.enabled = true ∧
      (live.service 0).liveRoute ≠ some 1 ∧ (held.port 0).flow = .held ∧ (live.port 0).flow = .flowing) ∧
    reply (.parameterWrite 0 24 1 0 (.num 1)) config = some (0x81, .unknown) ∧
    reply (.parameterWrite 0 4 1 0 (.kind .writer)) (carrying live) = some (0x81, .mode) ∧
    reply (.parameterWrite 0 3 1 0 (.num 999)) config = some (0x81, .range) ∧
    reply (.parameterWrite 0 3 1 0 (.num 1000)) config = some (0x81, .ok) ∧
    (result (.frameRateWrite 7 (.num 30)) config).ref.flywheel = some 100007 ∧
    ((result (.configuredRouteWrite 0 (.group (some 1))) (carrying live)).service 0).liveRoute = some 1 ∧
    ((result (.configuredRouteWrite 0 (.group (some 1))) config).service 0).liveRoute = none ∧
    ((result (.flowControlWrite 0 (.enabled false)) held).port 0).flow = .flowing ∧
    ((result (.flowControlWrite 0 (.enabled false)) (carrying live)).port 0).par.flowControl = false ∧
    (result (.schedulingModeWrite (.mode .wrr)) (carrying live)).schedMode = .wrr ∧
    (result (.poolRegionWrite 2 (.num 256)) config).poolRegion = ⟨0, 256⟩ ∧
    reply (.poolRegionWrite 2 (.num 257)) config = some (0x81, .range) ∧
    (7 ≠ config.poolRegion.first ∧ (result (.poolRegionWrite 1 (.num 7)) config).poolRegion = ⟨7, 0⟩) ∧
    reply (.poolRegionWrite 1 (.num 256)) config = some (0x81, .range) ∧
    resolve 3 1 0 = .ok .silenceTimeout ∧ Param.writableInRun .silenceTimeout = true ∧
    Param.accepts .silenceTimeout config (.num 1000) = true ∧ Param.accepts .silenceTimeout config (.num 999) = false ∧
    Param.read .silenceTimeout config = .num 2000 ∧
    Param.accepts (.serviceNumber 0 .minReading) config (.num 600) = true ∧
    Param.accepts (.serviceNumber 0 .minReading) config (.num 599) = false ∧
    Param.accepts (.serviceNumber 0 .catchupFloor) config (.num 1200) = true ∧
    Param.accepts (.serviceNumber 0 .catchupFloor) config (.num 1201) = false := by decide +kernel

/-- A part in CONFIG with one SCRIPT port, one service and a pool, whose first blocks are given. -/
def laidOut (p k : Nat) : State :=
  { State.reset with
    ports := State.reset.ports.set 4 { PortState.reset with
      par := { PortParams.reset with kind := .script, region := ⟨p, 1⟩, hw := 64, lw := 1 } }
    services := State.reset.services.set 0 { ServiceState.reset with
      par := { ServiceParams.reset with enabled := true, route := some 2, region := ⟨k, 1⟩ } }
    poolRegion := ⟨255, 1⟩ }

theorem test_witness_StartStopFlush :
    ((laidOut 0 1).mode = .config ∧ layoutCheck (laidOut 0 1).takenRegions = none ∧
      layoutCheck (laidOut 1 1).takenRegions = some (.port 4, .overlap)) ∧
    reply .start (carrying live) = some (0x82, .mode) ∧ reply .stop (carrying State.reset) = some (0x83, .mode) ∧
    reply (.flushPort 9) (carrying State.reset) = some (0x84, .mode) ∧
    reply (.flushService 9) (carrying State.reset) = some (0x85, .mode) ∧
    reply .start (carrying (laidOut 1 1)) = some (0x82, .layout) ∧
    (result .start (carrying (laidOut 0 1))).mode = .run ∧
    ((result .start (carrying (laidOut 0 1))).port 4).marks = some (64, 1) ∧
    ((result .start (carrying (laidOut 0 1))).service 0).liveRoute = some 2 ∧
    (result .stop (carrying (serving { served with display := onScreen ⟨14, 1⟩ none }))).sent.output = [.clear 0] ∧
    reply (.flushPort 8) (carrying live) = some (0x84, .range) ∧
    reply (.flushService 4) (carrying live) = some (0x85, .range) ∧
    ((result (.flushPort 0) (carrying (queued 40 .held))).port 0).flow = .flowing ∧
    ((result (.flushPort 0) (carrying (queued 40 .flowing))).port 0).queue = [] ∧
    ((result (.flushService 0) (carrying (stocked 3))).service 0).queue = [] := by decide +kernel

/-- The regions the check takes and the layout START puts in force; and a region that fails two tests (log 36). -/
theorem test_layout_in_force :
    (laidOut 0 1).takenRegions = [⟨.port 4, ⟨0, 1⟩⟩, ⟨.service 0, ⟨1, 1⟩⟩, ⟨.pool, ⟨255, 1⟩⟩] ∧
    ((result .start (carrying (laidOut 0 1))).layout.map fun l => (l.ports.get 4, l.services.get 0, l.pool)) =
      some (some ⟨0, 1⟩, some ⟨1, 1⟩, some ⟨255, 1⟩) ∧
    layoutCheck [⟨.service 0, ⟨250, 10⟩⟩, ⟨.pool, ⟨255, 1⟩⟩] = some (.service 0, .bounds) := by decide +kernel

theorem test_witness_StepKeepsConfigIdle_mode :
    (result .start (carrying (laidOut 0 1))).mode = .run ∧ (result .stop (carrying live)).mode = .config ∧
      (result .powerOnReset live).mode = .config ∧ (result .start (carrying (laidOut 1 1))).mode = .config := by
  decide +kernel

end Sys2Proof.Tests
end

section
/-! SUPPORT. A push into an intake queue (spec/02 R28, R31): one equation per outcome, and O28 assembled from them. -/

namespace Sys2Proof.Machine

theorem PortState.asksHold_iff (x : PortState) :
    x.asksHold = true ↔ x.par.flowControl = true ∧ x.flow = .flowing ∧
      ∃ hw lw, x.marks = some (hw, lw) ∧ hw ≤ x.queue.length := by
  rcases hm : x.marks with _ | ⟨hw, lw⟩ <;> simp [PortState.asksHold, hm, and_assoc]

@[simp] theorem IntakeRecord.isWord_iff (r : IntakeRecord) : r.isWord = true ↔ ∃ w, r = .word w := by
  cases r <;> simp [IntakeRecord.isWord]

theorem State.sendHold_setPort (s : State) (p : Port) (x : PortState) :
    (s.setPort p x).sendHold p =
      ((s.setPort p { x with flow := .held, refresh := some (plus s.now (x.par.holdTime / 2)) }).sendPort p
        (.hold x.par.holdTime)).raise (portEvent .holdSent p) := by
  simp [State.sendHold]

theorem State.afterPush_of_asksHold {s : State} {p : Port} (h : (s.port p).asksHold = true) :
    s.afterPush p = s.sendHold p := if_pos h

theorem State.afterPush_of_not_asksHold {s : State} {p : Port} (h : ¬ (s.port p).asksHold = true) :
    s.afterPush p = s := if_neg h

theorem State.push_of_room {s : State} {p : Port} (r : IntakeRecord)
    (h : (s.port p).queue.length < s.intakeCapacity p) :
    s.push p r = (s.setPort p { s.port p with queue := (s.port p).queue ++ [r] }).afterPush p := if_pos h

theorem State.push_of_full {s : State} {p : Port} (r : IntakeRecord)
    (h : s.intakeCapacity p ≤ (s.port p).queue.length) :
    s.push p r = (s.setAlert .intakeOverflow (some p)).raiseIf r.isWord (wordDrop .overflow p) :=
  if_neg (Nat.not_lt.mpr h)

end Sys2Proof.Machine

open Sys2Proof.Machine

/-- Settles O28: with room, the test after the push reads the joined port, whose occupancy is one higher; with a full
queue, the event depends on whether the record is a WORD. -/
theorem pushRecord : Obligations.PushRecord := by
  intro s p r x joined holds
  have asks : ((s.setPort p joined).port p).asksHold = true ↔ holds := by
    simp [PortState.asksHold_iff, holds, joined]
  refine ⟨fun room => ⟨fun quiet => ?_, fun hold => ?_⟩, fun full => ⟨fun word => ?_, fun other => ?_⟩⟩
  · rw [State.push_of_room r room]
    exact State.afterPush_of_not_asksHold (mt asks.mp quiet)
  · rw [State.push_of_room r room]
    exact (State.afterPush_of_asksHold (asks.mpr hold)).trans (State.sendHold_setPort s p joined)
  · rw [State.push_of_full r full]
    exact if_pos (r.isWord_iff.mpr word)
  · rw [State.push_of_full r full]
    exact if_neg fun h => let ⟨w, hw⟩ := r.isWord_iff.mp h; other w hw

end

section
/-! SUPPORT. The speech estimate (spec/05 R79, R80): the modular comparisons as signed differences, one equation per
outcome of the clamp and of its event, and O36 assembled from them. -/

namespace Sys2Proof.Machine

@[simp] theorem later_iff (b a : Smc) : later b a = true ↔ 0 < (b - a).toInt := by
  simp [later, elapsed]

@[simp] theorem earlier_iff (b a : Smc) : earlier b a = true ↔ (b - a).toInt < 0 := by
  simp [earlier, elapsed]

theorem isStale_iff (raw arrival : Smc) :
    isStale raw arrival = true ↔ (raw - (arrival - 20000#32)).toInt < 0 :=
  earlier_iff raw (arrival - 20000#32)

theorem estimate_of_least {window : List Int} {o : Int} (mem : o ∈ window) (least : ∀ x ∈ window, o ≤ x) :
    estimate window = some o :=
  List.min?_eq_some_iff.mpr ⟨mem, least⟩

theorem State.rawFor_of_least {s : State} {p : Port} {o : Int} (w : WordRecord) (mem : o ∈ (s.port p).window)
    (least : ∀ x ∈ (s.port p).window, o ≤ x) :
    s.rawFor p w = w.tick + BitVec.ofInt 32 o - BitVec.ofNat 32 (s.port p).par.lag := by
  rw [State.rawFor, estimate_of_least mem least]
  rfl

theorem clampEstimate_of_later {raw arrival : Smc} (late : later raw arrival = true) :
    clampEstimate raw arrival = arrival := if_pos late

theorem clampEstimate_of_stale {raw arrival : Smc} (notLate : ¬ later raw arrival = true)
    (stale : isStale raw arrival = true) : clampEstimate raw arrival = arrival - 20000#32 :=
  (if_neg notLate).trans (if_pos stale)

theorem clampEstimate_of_within {raw arrival : Smc} (notLate : ¬ later raw arrival = true)
    (notStale : ¬ isStale raw arrival = true) : clampEstimate raw arrival = raw :=
  (if_neg notLate).trans (if_neg notStale)

@[simp] theorem State.raiseIf_true (s : State) (o : Occurrence) : s.raiseIf true o = s.raise o := rfl

@[simp] theorem State.raiseIf_false (s : State) (o : Occurrence) : s.raiseIf false o = s := rfl

theorem State.staleEvent_of_later {s : State} {p : Port} {w : WordRecord}
    (late : later (s.rawFor p w) w.arrival = true) : s.staleEvent p w = s := by
  simp only [State.staleEvent, late, Bool.not_true, Bool.false_and, State.raiseIf_false]

theorem State.staleEvent_of_stale {s : State} {p : Port} {w : WordRecord}
    (notLate : ¬ later (s.rawFor p w) w.arrival = true) (stale : isStale (s.rawFor p w) w.arrival = true) :
    s.staleEvent p w = s.raise (portEvent .staleClamped p) := by
  simp only [State.staleEvent, notLate, stale, Bool.not_false, Bool.and_self, State.raiseIf_true]

theorem State.staleEvent_of_not_stale {s : State} {p : Port} {w : WordRecord}
    (notStale : ¬ isStale (s.rawFor p w) w.arrival = true) : s.staleEvent p w = s := by
  simp only [State.staleEvent, notStale, Bool.and_false, State.raiseIf_false]

end Sys2Proof.Machine

open Sys2Proof.Machine

/-- Settles O36, by the three places of the raw estimate: later than the arrival, before the 20 000 ms that end there,
and within them. The event has the clamp's own conditions. -/
theorem speechEstimate : Obligations.SpeechEstimate := by
  intro s p w o mem least raw early
  have hraw : s.rawFor p w = raw := State.rawFor_of_least w mem least
  have late_iff : later (s.rawFor p w) w.arrival = true ↔ 0 < (raw - w.arrival).toInt := by
    rw [hraw, later_iff]
  have stale_iff : isStale (s.rawFor p w) w.arrival = true ↔ (raw - early).toInt < 0 := by
    rw [hraw, isStale_iff]
  refine ⟨fun after => ?_, fun upTo before => ?_, fun upTo within => ?_⟩
  · have late := late_iff.mpr after
    exact ⟨clampEstimate_of_later late, State.staleEvent_of_later late⟩
  · have notLate := mt late_iff.mp (not_lt.mpr upTo)
    have stale := stale_iff.mpr before
    exact ⟨clampEstimate_of_stale notLate stale, State.staleEvent_of_stale notLate stale⟩
  · have notLate := mt late_iff.mp (not_lt.mpr upTo)
    have notStale := mt stale_iff.mp (not_lt.mpr within)
    exact ⟨(clampEstimate_of_within notLate notStale).trans hraw, State.staleEvent_of_not_stale notStale⟩

end

section
/-! SUPPORT. A cue's insertion (spec/06 R103, R104): when a placement follows a cue, the marking written out, one equation
per outcome of the insertion, and O42 assembled from them. -/

namespace Sys2Proof.Machine

@[simp] theorem Placement.follows_iff (x : Placement) (k : Service) (id : CueId) :
    x.follows k id = true ↔ x.service = k ∧ x.cue = id ∧ x.state = .amendable := by
  simp [Placement.follows, and_assoc]

theorem State.markCue_eq (s : State) (k : Service) (id : CueId) (st : PlacementState) :
    s.markCue k id st = s.mapPlacements fun x =>
      if x.service = k ∧ x.cue = id ∧ x.state = .amendable then { x with state := st } else x := by
  simp only [State.markCue, Placement.follows_iff]

theorem State.insertCue_of_room {s : State} {k : Service} (c : CueRecord)
    (room : (s.service k).queue.length < s.queueCapacity k) :
    s.insertCue k c = s.setService k { s.service k with queue := (s.service k).queue ++ [c] } := if_pos room

theorem State.insertCue_of_full {s : State} {k : Service} (c : CueRecord) {h : CueRecord} {rest : List CueRecord}
    (queue : (s.service k).queue = h :: rest) (full : s.queueCapacity k ≤ (s.service k).queue.length) :
    s.insertCue k c =
      (((s.setService k { s.service k with queue := rest ++ [c] }).markCue k h.body.id .gone).raise
        (serviceEvent .cueSkipped k)).setAlert .cueOverflow (some (serviceSource k)) := by
  rw [State.insertCue, if_neg (Nat.not_lt.mpr full), queue]

end Sys2Proof.Machine

open Sys2Proof.Machine

/-- Settles O42: the marking tests each placement as the statement does; the insertion turns on whether the queue has
room. -/
theorem cueInsertion : Obligations.CueInsertion := by
  refine ⟨fun s k id st => ?_, fun s k c => ⟨fun room => ?_, fun h rest queue full => ?_⟩⟩
  · exact State.markCue_eq s k id st
  · exact State.insertCue_of_room c room
  · exact State.insertCue_of_full c queue full

end

section
/-! SUPPORT. Counters and alerts (spec/11 R167 to R170, R172): one equation per outcome of an addition, what an offer and
the samples of one counter make of the table of counters, the relation of R170 between the saturated flags and the alert
COUNTER_SATURATED, which every addition keeps to, and O55 assembled from them. -/

namespace Sys2Proof.Machine

/-! ### One alert -/

@[simp] theorem AlertState.set_flag (a : AlertState) (source : Option (Fin 8)) : (a.set source).flag = true := by
  cases source <;> rfl

@[simp] theorem AlertState.set_enable (a : AlertState) (source : Option (Fin 8)) :
    (a.set source).enable = a.enable := by
  cases source <;> rfl

@[simp] theorem AlertState.set_sources_iff (a : AlertState) (source : Option (Fin 8)) (j : Fin 8) :
    (a.set source).sources.get j = true ↔ a.sources.get j = true ∨ source = some j := by
  cases source with
  | none => simp [AlertState.set]
  | some i =>
    by_cases h : j = i
    · simp [AlertState.set, h]
    · simp [AlertState.set, h, Ne.symm h]

/-! ### One counter -/

theorem Counter.takes_iff (c : Counter) (o : Occurrence) :
    c.takes o = true ↔ c.event = some o.event ∧ (∀ k, o.service = some k → c.services.get k = true) ∧
      (∀ p, o.port = some p → c.ports.get p = true) ∧ (∀ x, o.cause = some x → hasCause c.causes x = true) := by
  rcases o with ⟨e, _ | p, _ | k, _ | x, n⟩ <;> simp [Counter.takes, and_assoc]

theorem Counter.add_of_idle {c : Counter} {n : Nat} (h : c.saturated = true ∨ n = 0) : c.add n = c :=
  if_pos (by simpa using h)

theorem Counter.add_of_below {c : Counter} {n : Nat} (clear : c.saturated = false) (nonzero : n ≠ 0)
    (below : c.value + n < counterMax) : c.add n = { c with value := c.value + n } := by
  simp [Counter.add, clear, nonzero, Nat.not_le.mpr below]

theorem Counter.add_of_limit {c : Counter} {n : Nat} (clear : c.saturated = false) (nonzero : n ≠ 0)
    (limit : counterMax ≤ c.value + n) : c.add n = { c with value := counterMax, saturated := true } := by
  simp [Counter.add, clear, nonzero, limit]

/-! ### An addition to a counter of the table -/

theorem State.addTo_of_sets {s : State} {i : Fin 8} {n : Nat} (clear : (s.counters.get i).saturated = false)
    (saturates : ((s.counters.get i).add n).saturated = true) :
    s.addTo i n = State.setAlert { s with counters := s.counters.set i ((s.counters.get i).add n) }
      .counterSaturated (some i) :=
  if_pos (by simp [clear, saturates])

theorem State.addTo_of_keeps {s : State} {i : Fin 8} {n : Nat}
    (h : (s.counters.get i).saturated = true ∨ ((s.counters.get i).add n).saturated = false) :
    s.addTo i n = { s with counters := s.counters.set i ((s.counters.get i).add n) } :=
  if_neg (by rcases h with h | h <;> simp [h])

theorem State.addTo_counters (s : State) (i : Fin 8) (n : Nat) :
    (s.addTo i n).counters = s.counters.set i ((s.counters.get i).add n) := by
  rw [State.addTo, apply_ite State.counters]
  exact ite_self _

/-! ### The counters after an occurrence and after a sample -/

/-- What an occurrence makes of a counter (R167, R168). -/
def Counter.offered (o : Occurrence) (c : Counter) : Counter := if c.takes o then c.add (c.amount o) else c

theorem State.offer_counters (o : Occurrence) (s : State) (i : Fin 8) :
    (s.offer o i).counters = s.counters.set i ((s.counters.get i).offered o) := by
  by_cases h : (s.counters.get i).takes o <;> simp [State.offer, Counter.offered, h, State.addTo_counters]

/-- What samples make of a counter (R169). -/
def Counter.sampled (levels : List Nat) (c : Counter) : Counter :=
  levels.foldl (fun d level => d.add (c.measure level)) c

theorem State.foldl_addTo_counters (i : Fin 8) (amount : Nat → Nat) (levels : List Nat) (s : State) :
    (levels.foldl (fun t level => t.addTo i (amount level)) s).counters =
      s.counters.set i (levels.foldl (fun d level => d.add (amount level)) (s.counters.get i)) := by
  induction levels generalizing s with
  | nil => simp
  | cons level levels ih => simp [ih, State.addTo_counters]

theorem State.sampleCounter_counters (s : State) (i : Fin 8) :
    (s.sampleCounter i).counters =
      s.counters.set i ((s.counters.get i).sampled (s.samples (s.counters.get i))) :=
  State.foldl_addTo_counters i (s.counters.get i).measure (s.samples (s.counters.get i)) s

/-- The levels that a boundary samples do not depend on counters and alerts. -/
theorem SameBut.samples {s t : State} (h : SameBut [.counters, .alerts] s t) (c : Counter) :
    t.samples c = s.samples c := by
  have ports : t.ports = s.ports := h .ports (by simp)
  have services : t.services = s.services := h .services (by simp)
  have mode : t.mode = s.mode := h .mode (by simp)
  unfold State.samples State.catchupLevel State.queueLevel State.intakeLevel
  rw [ports, services, mode]

/-- An operation that changes the counter of its number alone, run once for each number of a list. -/
theorem foldl_counters_get {f : State → Fin 8 → State} {g : Counter → Counter} {s : State}
    (frame : ∀ t i, SameBut [.counters, .alerts] t (f t i))
    (counters : ∀ t i, SameBut [.counters, .alerts] s t → (f t i).counters = t.counters.set i (g (t.counters.get i)))
    {l : List (Fin 8)} (nodup : l.Nodup) {t : State} (same : SameBut [.counters, .alerts] s t) (i : Fin 8) :
    (l.foldl f t).counters.get i = if i ∈ l then g (t.counters.get i) else t.counters.get i := by
  induction l generalizing t with
  | nil => simp
  | cons j l ih =>
    obtain ⟨fresh, nodup⟩ := List.nodup_cons.mp nodup
    rw [List.foldl_cons, ih nodup (same.trans (frame t j)), counters t j same, Per8.get_set]
    by_cases h : i = j
    · simp [h, fresh]
    · simp [h]

theorem allPorts_nodup : allPorts.Nodup := by decide

theorem State.raise_counters_get (s : State) (o : Occurrence) (i : Fin 8) :
    (s.raise o).counters.get i = (s.counters.get i).offered o :=
  (foldl_counters_get (fun t j => offer_frame t o j) (fun t j _ => t.offer_counters o j) allPorts_nodup
    (SameBut.refl _ s) i).trans (if_pos (mem_allPorts i))

theorem State.sampleLevels_counters_get (s : State) (i : Fin 8) :
    s.sampleLevels.counters.get i = (s.counters.get i).sampled (s.samples (s.counters.get i)) :=
  (foldl_counters_get (g := fun c => c.sampled (s.samples c)) sampleCounter_frame
    (fun t j same => by rw [t.sampleCounter_counters, same.samples]) allPorts_nodup (SameBut.refl _ s) i).trans
    (if_pos (mem_allPorts i))

/-! ### The levels -/

theorem State.catchupLevel_eq (s : State) (k : Service) :
    s.catchupLevel k = if (s.service k).par.enabled = true ∧ (s.service k).phase = .catchup then 1 else 0 :=
  if_congr (by simp [State.service]) rfl rfl

theorem State.queueLevel_eq (s : State) (k : Service) :
    s.queueLevel k = if (s.service k).par.enabled = true ∧ s.mode = .run then (s.service k).queue.length else 0 :=
  if_congr (by simp [State.service]) rfl rfl

theorem State.intakeLevel_eq (s : State) (p : Port) :
    s.intakeLevel p = if (s.port p).par.kind ≠ .unused ∧ s.mode = .run then (s.port p).queue.length else 0 :=
  if_congr (by simp [State.port]) rfl rfl

/-! ### The alert COUNTER_SATURATED (R170) -/

/-- Between the two states the saturated flag of the counter goes from clear to set. -/
def NowSaturated (s t : State) (i : Fin 8) : Prop :=
  (s.counters.get i).saturated = false ∧ (t.counters.get i).saturated = true

/-- Between the two states no saturated flag is cleared, and the alerts change by COUNTER_SATURATED set with the numbers
of the counters now saturated. -/
structure MarksSaturated (s t : State) : Prop where
  keeps : ∀ i, (s.counters.get i).saturated = true → (t.counters.get i).saturated = true
  others : ∀ i, i ≠ 7 → t.alerts.get i = s.alerts.get i
  enable : (t.alerts.get 7).enable = (s.alerts.get 7).enable
  flag : (t.alerts.get 7).flag = true ↔ (s.alerts.get 7).flag = true ∨ ∃ i, NowSaturated s t i
  sources : ∀ j, (t.alerts.get 7).sources.get j = true ↔ (s.alerts.get 7).sources.get j = true ∨ NowSaturated s t j

theorem not_nowSaturated_self (s : State) (i : Fin 8) : ¬ NowSaturated s s i := by
  simp [NowSaturated]

theorem MarksSaturated.refl (s : State) : MarksSaturated s s where
  keeps _ h := h
  others _ _ := rfl
  enable := rfl
  flag := by simp [not_nowSaturated_self]
  sources := by simp [not_nowSaturated_self]

/-- A counter saturates on the way from `s` to `u` in one of the two stretches, since no flag is cleared. -/
theorem MarksSaturated.nowSaturated_trans {s t u : State} (h : MarksSaturated s t) (k : MarksSaturated t u) (i : Fin 8) :
    NowSaturated s u i ↔ NowSaturated s t i ∨ NowSaturated t u i := by
  have first := h.keeps i
  have second := k.keeps i
  unfold NowSaturated
  cases hs : (s.counters.get i).saturated <;> cases ht : (t.counters.get i).saturated <;> simp_all

theorem MarksSaturated.trans {s t u : State} (h : MarksSaturated s t) (k : MarksSaturated t u) : MarksSaturated s u where
  keeps i clear := k.keeps i (h.keeps i clear)
  others i other := (k.others i other).trans (h.others i other)
  enable := k.enable.trans h.enable
  flag := by simp only [k.flag, h.flag, h.nowSaturated_trans k, exists_or, or_assoc]
  sources j := by simp only [k.sources, h.sources, h.nowSaturated_trans k, or_assoc]

theorem MarksSaturated.foldl {α : Type} {f : State → α → State} (h : ∀ t x, MarksSaturated t (f t x)) (l : List α)
    (s : State) : MarksSaturated s (l.foldl f s) := by
  induction l generalizing s with
  | nil => exact MarksSaturated.refl s
  | cons x l ih => exact (h s x).trans (ih (f s x))

theorem addTo_keeps_saturated (s : State) (i : Fin 8) (n : Nat) (j : Fin 8) (h : (s.counters.get j).saturated = true) :
    ((s.addTo i n).counters.get j).saturated = true := by
  rw [State.addTo_counters, Per8.get_set]
  split
  next same => subst same; rwa [Counter.add_of_idle (Or.inl h)]
  next => exact h

theorem nowSaturated_addTo_iff (s : State) (i : Fin 8) (n : Nat) (j : Fin 8) :
    NowSaturated s (s.addTo i n) j ↔
      i = j ∧ (s.counters.get i).saturated = false ∧ ((s.counters.get i).add n).saturated = true := by
  rw [NowSaturated, State.addTo_counters, Per8.get_set]
  by_cases h : j = i
  · simp [h]
  · simp [h, Ne.symm h]

theorem addTo_marksSaturated (s : State) (i : Fin 8) (n : Nat) : MarksSaturated s (s.addTo i n) := by
  by_cases h : (s.counters.get i).saturated = false ∧ ((s.counters.get i).add n).saturated = true
  · have now (j) : NowSaturated s (s.addTo i n) j ↔ i = j := by simp [nowSaturated_addTo_iff, h]
    have alerts : (s.addTo i n).alerts = s.alerts.set 7 ((s.alerts.get 7).set (some i)) := by
      obtain ⟨clear, saturates⟩ := h
      rw [State.addTo_of_sets clear saturates]
      rfl
    constructor
    case keeps => exact addTo_keeps_saturated s i n
    all_goals simp +contextual [now, alerts]
  · have now (j) : ¬ NowSaturated s (s.addTo i n) j := fun a => h ((nowSaturated_addTo_iff s i n j).mp a).2
    have alerts : (s.addTo i n).alerts = s.alerts := by
      rw [State.addTo_of_keeps (by simpa [or_iff_not_imp_left] using h)]
    constructor
    case keeps => exact addTo_keeps_saturated s i n
    all_goals simp [now, alerts]

theorem offer_marksSaturated (o : Occurrence) (s : State) (i : Fin 8) : MarksSaturated s (s.offer o i) := by
  unfold State.offer
  split
  · exact addTo_marksSaturated s i _
  · exact MarksSaturated.refl s

theorem raise_marksSaturated (s : State) (o : Occurrence) : MarksSaturated s (s.raise o) :=
  MarksSaturated.foldl (offer_marksSaturated o) allPorts s

theorem sampleCounter_marksSaturated (s : State) (i : Fin 8) : MarksSaturated s (s.sampleCounter i) :=
  MarksSaturated.foldl (fun t _ => addTo_marksSaturated t i _) _ s

theorem sampleLevels_marksSaturated (s : State) : MarksSaturated s s.sampleLevels :=
  MarksSaturated.foldl sampleCounter_marksSaturated allPorts s

end Sys2Proof.Machine

open Sys2Proof.Machine

/-- Settles O55: an occurrence and a sample go through the counters one by one, each addition changing the counter of its
number; the alert follows by chaining, over the same additions, what one addition does to it. -/
theorem occurrenceReachesCounters : Obligations.OccurrenceReachesCounters := by
  refine ⟨fun s a source => ?alert, fun s o => ?occurrence, fun c n => ?addition, fun s i n => ?saturation,
    fun s => ?sample, ?marks⟩
  case alert =>
    refine ⟨setAlert_frame s a source, ?_⟩
    intro place x y
    have place_eq : place = a.index := by cases a <;> rfl
    have set_eq : y = x.set source := by simp [x, y, place_eq]
    refine ⟨?_, ?_, fun j => ?_, fun i other => ?_⟩
    · simp [set_eq]
    · simp [set_eq]
    · simp [set_eq]
    · simp [place_eq ▸ other]
  case occurrence =>
    refine ⟨raise_frame s o, fun i => ?_⟩
    intro c takes figure
    have taken : c.takes o = true ↔ takes := c.takes_iff o
    rw [State.raise_counters_get]
    exact ⟨fun h => if_neg (mt taken.mp h), fun h => if_pos (taken.mpr h)⟩
  case addition =>
    exact ⟨Counter.add_of_idle, fun clear nonzero =>
      ⟨Counter.add_of_below clear nonzero, Counter.add_of_limit clear nonzero⟩⟩
  case saturation => exact ⟨State.addTo_of_sets, State.addTo_of_keeps⟩
  case sample =>
    refine ⟨sampleLevels_frame s, fun i => ?_⟩
    intro c services levels
    have samples : s.samples c = levels := by
      rewrite [State.samples, funext s.catchupLevel_eq, funext s.queueLevel_eq, funext s.intakeLevel_eq]
      rfl
    rw [State.sampleLevels_counters_get, ← samples]
    rfl
  case marks =>
    intro saturates s
    have of_marks {t u : State} (h : MarksSaturated t u) : saturates t u := ⟨h.others, h.enable, h.flag, h.sources⟩
    exact ⟨of_marks (sampleLevels_marksSaturated s), fun o => of_marks (raise_marksSaturated s o)⟩

end

section
-- Here and below the theorems are elaborated one after another: in one text with the model, those that wait for their turn at
-- the kernel would hold more threads than the check has memory for.
set_option Elab.async false
/-! SUPPORT. What counters and alerts leave alone: an occurrence raised and a sample taken read nothing of the counters and
alerts but themselves, so that every other field reads through them and every other update passes by them. -/

namespace Sys2Proof.Machine

/-! ### An occurrence changes counters and alerts alone -/

theorem SameBut.withWatchers {s t : State} (h : SameBut [.counters, .alerts] s t) :
    t = s.withWatchers t.counters t.alerts := by
  have hp := h .pending (by simp)
  have hm := h .mode (by simp)
  have hr := h .ref (by simp)
  have hpo := h .ports (by simp)
  have hg := h .groups (by simp)
  have hs := h .services (by simp)
  have hst := h .silenceTimeout (by simp)
  have hsm := h .schedMode (by simp)
  have hb := h .budget (by simp)
  have hpr := h .poolRegion (by simp)
  have hl := h .layout (by simp)
  have hrr := h .roundRobin (by simp)
  have hi := h .inserter (by simp)
  have hbc := h .busyCount (by simp)
  have he := h .events (by simp)
  have hpa := h .packages (by simp)
  have hsu := h .sup (by simp)
  have hse := h .sent (by simp)
  have hf := h .freeIndex (by simp)
  cases s; cases t
  simp_all [State.agree, State.withWatchers]

theorem State.offer_update (o : Occurrence) (s t : State) (i : Fin 8) (hc : t.counters = s.counters)
    (ha : t.alerts = s.alerts) :
    State.offer o t i = t.withWatchers (State.offer o s i).counters (State.offer o s i).alerts := by
  have keep : t = t.withWatchers s.counters s.alerts := by cases t; cases hc; cases ha; rfl
  by_cases taken : (s.counters.get i).takes o = true
  · by_cases sets : (((s.counters.get i).add ((s.counters.get i).amount o)).saturated &&
      !(s.counters.get i).saturated) = true
    · simp [State.offer, State.addTo, hc, ha, taken, sets, State.withWatchers, State.setAlert]
    · simp [State.offer, State.addTo, hc, ha, taken, sets, State.withWatchers]
  · simpa [State.offer, hc, taken] using keep

/-- What an occurrence makes of counters and alerts depends on them alone. -/
theorem State.raise_update (o : Occurrence) (s t : State) (hc : t.counters = s.counters) (ha : t.alerts = s.alerts) :
    t.raise o = t.withWatchers (s.raise o).counters (s.raise o).alerts := by
  unfold State.raise
  generalize allPorts = l
  induction l generalizing s t with
  | nil => cases t; cases hc; cases ha; rfl
  | cons i l ih =>
    have offered := State.offer_update o s t i hc ha
    rw [List.foldl_cons, List.foldl_cons, ih (State.offer o s i) (State.offer o t i) (by rw [offered]; rfl)
      (by rw [offered]; rfl), offered]
    rfl

theorem State.raise_eq_withWatchers (s : State) (o : Occurrence) :
    s.raise o = s.withWatchers (s.raise o).counters (s.raise o).alerts :=
  (raise_frame s o).withWatchers

@[simp] theorem State.raise_pending (s : State) (o : Occurrence) : (s.raise o).pending = s.pending :=
  raise_frame s o .pending (by simp)
@[simp] theorem State.raise_mode (s : State) (o : Occurrence) : (s.raise o).mode = s.mode :=
  raise_frame s o .mode (by simp)
@[simp] theorem State.raise_ref (s : State) (o : Occurrence) : (s.raise o).ref = s.ref :=
  raise_frame s o .ref (by simp)
@[simp] theorem State.raise_ports (s : State) (o : Occurrence) : (s.raise o).ports = s.ports :=
  raise_frame s o .ports (by simp)
@[simp] theorem State.raise_groups (s : State) (o : Occurrence) : (s.raise o).groups = s.groups :=
  raise_frame s o .groups (by simp)
@[simp] theorem State.raise_services (s : State) (o : Occurrence) : (s.raise o).services = s.services :=
  raise_frame s o .services (by simp)
@[simp] theorem State.raise_layout (s : State) (o : Occurrence) : (s.raise o).layout = s.layout :=
  raise_frame s o .layout (by simp)
@[simp] theorem State.raise_poolRegion (s : State) (o : Occurrence) : (s.raise o).poolRegion = s.poolRegion :=
  raise_frame s o .poolRegion (by simp)
@[simp] theorem State.raise_inserter (s : State) (o : Occurrence) : (s.raise o).inserter = s.inserter :=
  raise_frame s o .inserter (by simp)
@[simp] theorem State.raise_busyCount (s : State) (o : Occurrence) : (s.raise o).busyCount = s.busyCount :=
  raise_frame s o .busyCount (by simp)
@[simp] theorem State.raise_events (s : State) (o : Occurrence) : (s.raise o).events = s.events :=
  raise_frame s o .events (by simp)
@[simp] theorem State.raise_packages (s : State) (o : Occurrence) : (s.raise o).packages = s.packages :=
  raise_frame s o .packages (by simp)
@[simp] theorem State.raise_sup (s : State) (o : Occurrence) : (s.raise o).sup = s.sup :=
  raise_frame s o .sup (by simp)
@[simp] theorem State.raise_sent (s : State) (o : Occurrence) : (s.raise o).sent = s.sent :=
  raise_frame s o .sent (by simp)
@[simp] theorem State.raise_budget (s : State) (o : Occurrence) : (s.raise o).budget = s.budget :=
  raise_frame s o .budget (by simp)

@[simp] theorem State.raise_port (s : State) (o : Occurrence) (p : Port) : (s.raise o).port p = s.port p := by
  simp [State.port]
@[simp] theorem State.raise_group (s : State) (o : Occurrence) (g : Group) : (s.raise o).group g = s.group g := by
  simp [State.group]
@[simp] theorem State.raise_service (s : State) (o : Occurrence) (k : Service) :
    (s.raise o).service k = s.service k := by simp [State.service]
@[simp] theorem State.raise_now (s : State) (o : Occurrence) : (s.raise o).now = s.now := by simp [State.now]
@[simp] theorem State.raise_running (s : State) (o : Occurrence) : (s.raise o).running = s.running := by
  simp [State.running]

/-! ### The capacities and the package table through the updates of a table -/

theorem State.queueCapacity_congr {s t : State} (h : t.layout = s.layout) (k : Service) :
    t.queueCapacity k = s.queueCapacity k := by unfold State.queueCapacity; rw [h]

theorem State.intakeCapacity_congr {s t : State} (h : t.layout = s.layout) (p : Port) :
    t.intakeCapacity p = s.intakeCapacity p := by unfold State.intakeCapacity State.portRegion; rw [h]

theorem State.poolCapacity_congr {s t : State} (h : t.layout = s.layout) : t.poolCapacity = s.poolCapacity := by
  unfold State.poolCapacity; rw [h]

@[simp] theorem State.raise_queueCapacity (s : State) (o : Occurrence) (k : Service) :
    (s.raise o).queueCapacity k = s.queueCapacity k := State.queueCapacity_congr (by simp) k
@[simp] theorem State.setPort_queueCapacity (s : State) (p : Port) (x : PortState) (k : Service) :
    (s.setPort p x).queueCapacity k = s.queueCapacity k := rfl
@[simp] theorem State.setGroup_queueCapacity (s : State) (g : Group) (x : GroupState) (k : Service) :
    (s.setGroup g x).queueCapacity k = s.queueCapacity k := rfl
@[simp] theorem State.setService_queueCapacity (s : State) (l : Service) (x : ServiceState) (k : Service) :
    (s.setService l x).queueCapacity k = s.queueCapacity k := rfl
@[simp] theorem State.setAlert_queueCapacity (s : State) (a : Alert) (o : Option (Fin 8)) (k : Service) :
    (s.setAlert a o).queueCapacity k = s.queueCapacity k := rfl
@[simp] theorem State.raise_intakeCapacity (s : State) (o : Occurrence) (p : Port) :
    (s.raise o).intakeCapacity p = s.intakeCapacity p := State.intakeCapacity_congr (by simp) p
@[simp] theorem State.setPort_intakeCapacity (s : State) (q : Port) (x : PortState) (p : Port) :
    (s.setPort q x).intakeCapacity p = s.intakeCapacity p := rfl
@[simp] theorem State.raise_findPackage (s : State) (o : Occurrence) (id : PackageId) :
    (s.raise o).findPackage id = s.findPackage id := by
  simp [State.findPackage, State.packageRecords]

/-! ### Other updates pass by an occurrence -/

theorem State.raise_setService (s : State) (o : Occurrence) (k : Service) (v : ServiceState) :
    (s.raise o).setService k v = (s.setService k v).raise o := by
  rw [State.raise_update o s (s.setService k v) rfl rfl, State.raise_eq_withWatchers s]
  rfl

theorem State.raise_setPort (s : State) (o : Occurrence) (p : Port) (x : PortState) :
    (s.raise o).setPort p x = (s.setPort p x).raise o := by
  rw [State.raise_update o s (s.setPort p x) rfl rfl, State.raise_eq_withWatchers s]
  rfl

theorem State.raise_mapPlacements (s : State) (o : Occurrence) (f : Placement → Placement) :
    (s.raise o).mapPlacements f = (s.mapPlacements f).raise o := by
  rw [State.raise_update o s (s.mapPlacements f) rfl rfl, State.raise_eq_withWatchers s]
  rfl

theorem State.raise_markCue (s : State) (o : Occurrence) (k : Service) (id : CueId) (st : PlacementState) :
    (s.raise o).markCue k id st = (s.markCue k id st).raise o := s.raise_mapPlacements o _

theorem State.raiseIf_setService (s : State) (b : Bool) (o : Occurrence) (k : Service) (v : ServiceState) :
    (s.raiseIf b o).setService k v = (s.setService k v).raiseIf b o := by
  cases b
  · rfl
  · exact s.raise_setService o k v

@[simp] theorem State.raiseTimes_zero (s : State) (o : Occurrence) : s.raiseTimes o 0 = s := rfl

theorem State.raiseTimes_succ (s : State) (o : Occurrence) (n : Nat) :
    s.raiseTimes o (n + 1) = (s.raise o).raiseTimes o n := by
  conv_lhs => unfold State.raiseTimes

theorem State.raiseTimes_setService (s : State) (o : Occurrence) (n : Nat) (k : Service) (v : ServiceState) :
    (s.raiseTimes o n).setService k v = (s.setService k v).raiseTimes o n := by
  induction n generalizing s with
  | zero => simp only [State.raiseTimes_zero]
  | succ n ih => simp only [State.raiseTimes_succ, ih, State.raise_setService]

@[simp] theorem State.raiseIf_service (s : State) (b : Bool) (o : Occurrence) (k : Service) :
    (s.raiseIf b o).service k = s.service k := by cases b <;> simp
@[simp] theorem State.raiseIf_queueCapacity (s : State) (b : Bool) (o : Occurrence) (k : Service) :
    (s.raiseIf b o).queueCapacity k = s.queueCapacity k := by cases b <;> simp
@[simp] theorem State.raiseIf_now (s : State) (b : Bool) (o : Occurrence) : (s.raiseIf b o).now = s.now := by
  cases b <;> simp
@[simp] theorem State.raiseIf_mode (s : State) (b : Bool) (o : Occurrence) : (s.raiseIf b o).mode = s.mode := by
  cases b <;> simp
@[simp] theorem State.raiseIf_port (s : State) (b : Bool) (o : Occurrence) (p : Port) :
    (s.raiseIf b o).port p = s.port p := by cases b <;> simp
@[simp] theorem State.raiseTimes_service (s : State) (o : Occurrence) (n : Nat) (k : Service) :
    (s.raiseTimes o n).service k = s.service k := by
  induction n generalizing s with
  | zero => rw [State.raiseTimes_zero]
  | succ n ih => rw [State.raiseTimes_succ, ih, State.raise_service]

/-! ### Placements: the ports change their histories alone -/

@[simp] theorem State.mapPlacements_service (s : State) (f : Placement → Placement) (k : Service) :
    (s.mapPlacements f).service k = s.service k := rfl
@[simp] theorem State.mapPlacements_queueCapacity (s : State) (f : Placement → Placement) (k : Service) :
    (s.mapPlacements f).queueCapacity k = s.queueCapacity k := rfl
@[simp] theorem State.mapPlacements_port (s : State) (f : Placement → Placement) (p : Port) :
    (s.mapPlacements f).port p = { s.port p with history := (s.port p).history.map fun e => e.map f } := by
  simp [State.mapPlacements, State.port]
@[simp] theorem State.markCue_service (s : State) (k : Service) (id : CueId) (st : PlacementState) (l : Service) :
    (s.markCue k id st).service l = s.service l := rfl
@[simp] theorem State.markCue_queueCapacity (s : State) (k : Service) (id : CueId) (st : PlacementState) (l : Service) :
    (s.markCue k id st).queueCapacity l = s.queueCapacity l := rfl
@[simp] theorem State.markCue_ref (s : State) (k : Service) (id : CueId) (st : PlacementState) :
    (s.markCue k id st).ref = s.ref := rfl
theorem State.markCue_setService (s : State) (k : Service) (id : CueId) (st : PlacementState) (l : Service)
    (v : ServiceState) : (s.markCue k id st).setService l v = (s.setService l v).markCue k id st := rfl

end Sys2Proof.Machine
end

section
set_option Elab.async false
/-! SUPPORT. The text of a cue (spec/04 R57, R60, R69): what a word placed by the fit rule makes of the rows, the rows that a
reflow builds, and that a reflow after the removal of a word keeps to the rows. -/

namespace Sys2Proof.Machine

/-! ### Row lengths -/

@[simp] theorem rowLength_nil : rowLength [] = 0 := rfl

theorem rowLength_append_word (ws : List PlacedWord) (w : PlacedWord) :
    rowLength (ws ++ [w]) = if ws = [] then w.text.length else rowLength ws + 1 + w.text.length := by
  cases ws with
  | nil => simp [rowLength]
  | cons x xs => simp [rowLength]; omega

theorem rowLength_le_of_sublist {xs ys : List PlacedWord} (h : xs.Sublist ys) : rowLength xs ≤ rowLength ys := by
  have sums : (xs.map fun w => w.text.length).sum ≤ (ys.map fun w => w.text.length).sum :=
    (h.map _).sum_le_sum (by simp)
  have lengths := h.length_le
  unfold rowLength
  omega

theorem length_le_rowLength {w : PlacedWord} {ws : List PlacedWord} (h : w ∈ ws) : w.text.length ≤ rowLength ws := by
  simpa [rowLength] using rowLength_le_of_sublist (List.singleton_sublist.mpr h)

/-! ### The fit rule, by the rows that stand -/

theorem CueBody.fit_of_empty {b : CueBody} (m : Nat) (h : b.row1 = []) : b.fit m = .row1 := if_pos h

theorem CueBody.fit_first_row {b : CueBody} {m : Nat} (h1 : b.row1 ≠ []) (h2 : b.row2 = [])
    (room : rowLength b.row1 + 1 + m ≤ b.width) : b.fit m = .row1 := by
  simp [CueBody.fit, h1, h2, room]

theorem CueBody.fit_new_row {b : CueBody} {m : Nat} (h1 : b.row1 ≠ []) (h2 : b.row2 = [])
    (full : b.width < rowLength b.row1 + 1 + m) : b.fit m = if b.formedRows = 2 then .row2 else .overflow := by
  simp [CueBody.fit, h1, h2, Nat.not_le.mpr full]

theorem CueBody.fit_second_row {b : CueBody} (m : Nat) (h1 : b.row1 ≠ []) (h2 : b.row2 ≠ []) :
    b.fit m = if rowLength b.row2 + 1 + m ≤ b.width then .row2 else .overflow := by
  simp [CueBody.fit, h1, h2]

/-- A word put where the fit rule says (R60). -/
def CueBody.place (b : CueBody) (w : PlacedWord) : CueBody := b.put (b.fit w.text.length) w

theorem CueBody.place_row1 {b : CueBody} {w : PlacedWord} (h : b.fit w.text.length = .row1) :
    b.place w = { b with row1 := b.row1 ++ [w] } := by rw [CueBody.place, h]; rfl

theorem CueBody.place_row2 {b : CueBody} {w : PlacedWord} (h : b.fit w.text.length ≠ .row1) :
    b.place w = { b with row2 := b.row2 ++ [w] } := by
  cases hf : b.fit w.text.length with
  | row1 => exact absurd hf h
  | row2 => rw [CueBody.place, hf]; rfl
  | overflow => rw [CueBody.place, hf]; rfl

/-- The cue without its words. -/
def CueBody.emptied (b : CueBody) : CueBody := { b with row1 := [], row2 := [] }

theorem CueBody.reflow_eq_foldl (b : CueBody) (ws : List PlacedWord) : b.reflow ws = ws.foldl CueBody.place b.emptied := rfl

theorem CueBody.reflow_append_word (b : CueBody) (ws : List PlacedWord) (w : PlacedWord) :
    b.reflow (ws ++ [w]) = (b.reflow ws).place w := by
  simp [CueBody.reflow_eq_foldl]

/-! ### What a reflow builds -/

/-- Once row 2 holds a word, every further word joins it. -/
theorem CueBody.foldl_place_second {b : CueBody} (h1 : b.row1 ≠ []) (h2 : b.row2 ≠ []) (ws : List PlacedWord) :
    ws.foldl CueBody.place b = { b with row2 := b.row2 ++ ws } := by
  induction ws generalizing b with
  | nil => simp
  | cons w ws ih =>
    have notFirst : b.fit w.text.length ≠ .row1 := by
      rw [CueBody.fit_second_row _ h1 h2]
      split <;> simp
    rw [List.foldl_cons, CueBody.place_row2 notFirst, ih (b := { b with row2 := b.row2 ++ [w] }) h1 (by simp)]
    simp

/-- Words placed behind a row 1 that fits: a first part of them joins row 1, which still fits, and the rest stands in
row 2. -/
theorem CueBody.foldl_place_first {b : CueBody} (h2 : b.row2 = []) (fits : rowLength b.row1 ≤ b.width)
    (ws : List PlacedWord) (narrow : ∀ w ∈ ws, w.text.length ≤ b.width) :
    ∃ joined rest, ws = joined ++ rest ∧
      ws.foldl CueBody.place b = { b with row1 := b.row1 ++ joined, row2 := rest } ∧
      rowLength (b.row1 ++ joined) ≤ b.width ∧ (rest ≠ [] → b.row1 ++ joined ≠ []) := by
  induction ws generalizing b with
  | nil => exact ⟨[], [], rfl, by cases b; cases h2; simp, by simpa using fits, by simp⟩
  | cons w ws ih =>
    by_cases room : b.row1 = [] ∨ rowLength b.row1 + 1 + w.text.length ≤ b.width
    · have first : b.fit w.text.length = .row1 := by
        by_cases h1 : b.row1 = []
        · exact CueBody.fit_of_empty _ h1
        · exact CueBody.fit_first_row h1 h2 (room.resolve_left h1)
      have fits' : rowLength (b.row1 ++ [w]) ≤ b.width := by
        rw [rowLength_append_word]
        split
        · exact narrow w (by simp)
        · next h1 => exact room.resolve_left h1
      obtain ⟨joined, rest, hws, hfold, hfits, hrest⟩ :=
        ih (b := { b with row1 := b.row1 ++ [w] }) h2 fits' fun x hx => narrow x (List.mem_cons_of_mem _ hx)
      refine ⟨w :: joined, rest, by simp [hws], ?_, by simpa using hfits, by simp⟩
      rw [List.foldl_cons, CueBody.place_row1 first, hfold]
      simp
    · obtain ⟨h1, full⟩ := not_or.mp room
      have notFirst : b.fit w.text.length ≠ .row1 := by
        rw [CueBody.fit_new_row h1 h2 (by omega)]
        split <;> simp
      refine ⟨[], w :: ws, rfl, ?_, by simpa using fits, by simpa using h1⟩
      rw [List.foldl_cons, CueBody.place_row2 notFirst,
        CueBody.foldl_place_second (b := { b with row2 := b.row2 ++ [w] }) h1 (by simp)]
      simp [h2]

theorem CueBody.foldl_place_words (ws : List PlacedWord) {b : CueBody} (h : b.row1 = [] → b.row2 = []) :
    (ws.foldl CueBody.place b).words = b.words ++ ws ∧ (ws.foldl CueBody.place b).emptied = b.emptied := by
  induction ws generalizing b with
  | nil => simp
  | cons w ws ih =>
    rw [List.foldl_cons]
    by_cases first : b.fit w.text.length = .row1
    · have alone : b.row2 = [] := by
        by_contra h2
        have h1 : b.row1 ≠ [] := fun h1 => h2 (h h1)
        rw [CueBody.fit_second_row _ h1 h2] at first
        split at first <;> cases first
      rw [CueBody.place_row1 first]
      obtain ⟨words, base⟩ := ih (b := { b with row1 := b.row1 ++ [w] }) fun _ => alone
      exact ⟨words.trans (by simp [CueBody.words, alone]), base⟩
    · have h1 : b.row1 ≠ [] := fun h1 => first (CueBody.fit_of_empty _ h1)
      rw [CueBody.place_row2 first]
      obtain ⟨words, base⟩ := ih (b := { b with row2 := b.row2 ++ [w] }) fun a => absurd a h1
      exact ⟨words.trans (by simp [CueBody.words]), base⟩

@[simp] theorem CueBody.reflow_words (b : CueBody) (ws : List PlacedWord) : (b.reflow ws).words = ws :=
  (CueBody.foldl_place_words ws fun _ => rfl).1

theorem CueBody.reflow_emptied (b : CueBody) (ws : List PlacedWord) : (b.reflow ws).emptied = b.emptied :=
  (CueBody.foldl_place_words ws fun _ => rfl).2

/-- What a reflow builds stands as the fit rule forms it. -/
theorem CueBody.reflow_formed (b : CueBody) (ws : List PlacedWord) : (b.reflow ws).formed := by
  rw [CueBody.formed, CueBody.reflow_words, CueBody.reflow_eq_foldl, CueBody.reflow_emptied]
  rfl

@[simp] theorem CueBody.reflow_id (b : CueBody) (ws : List PlacedWord) : (b.reflow ws).id = b.id := by
  simpa only [CueBody.emptied] using congrArg CueBody.id (b.reflow_emptied ws)

@[simp] theorem CueBody.reflow_width (b : CueBody) (ws : List PlacedWord) : (b.reflow ws).width = b.width := by
  simpa only [CueBody.emptied] using congrArg CueBody.width (b.reflow_emptied ws)

@[simp] theorem CueBody.reflow_formedRows (b : CueBody) (ws : List PlacedWord) :
    (b.reflow ws).formedRows = b.formedRows := by
  simpa only [CueBody.emptied] using congrArg CueBody.formedRows (b.reflow_emptied ws)

/-- Words that stand in two rows that fit are reflowed into two rows that fit: row 1 takes no fewer of them. -/
theorem CueBody.reflow_rowsFit {b : CueBody} {first second : List PlacedWord} (h1 : rowLength first ≤ b.width)
    (h2 : rowLength second ≤ b.width) (formed : second ≠ [] → b.formedRows = 2) :
    (b.reflow (first ++ second)).rowsFit := by
  have base : b.emptied.row1 = [] := rfl
  have narrow {ws} (h : rowLength ws ≤ b.width) : ∀ w ∈ ws, w.text.length ≤ b.emptied.width :=
    fun w hw => (length_le_rowLength hw).trans h
  have filled : first.foldl CueBody.place b.emptied = { b.emptied with row1 := first } := by
    induction first using List.reverseRecOn with
    | nil => rfl
    | append_singleton ws w ih =>
      have shorter : rowLength ws ≤ b.width := (rowLength_le_of_sublist (List.sublist_append_left ws [w])).trans h1
      rw [List.foldl_append, ih shorter, List.foldl_cons, List.foldl_nil, CueBody.place_row1]
      by_cases empty : ws = []
      · exact CueBody.fit_of_empty _ empty
      · rw [rowLength_append_word, if_neg empty] at h1
        exact CueBody.fit_first_row (b := { b.emptied with row1 := ws }) empty rfl h1
  obtain ⟨joined, rest, hsecond, hfold, hfits, hrest⟩ :=
    CueBody.foldl_place_first (b := { b.emptied with row1 := first }) rfl h1 second (narrow h2)
  rw [CueBody.reflow_eq_foldl, List.foldl_append, filled, hfold]
  have tail : rest.Sublist second := hsecond ▸ List.sublist_append_right joined rest
  refine ⟨hfits, (rowLength_le_of_sublist tail).trans h2, fun hr => ⟨hrest hr, formed fun empty => hr ?_⟩⟩
  rw [empty] at tail
  exact List.sublist_nil.mp tail

/-! ### Removal of a word -/

/-- A removal reflows what remains of the two rows. -/
theorem CueBody.words_eraseIdx (b : CueBody) (i : Nat) : ∃ first second, b.words.eraseIdx i = first ++ second ∧
    first.Sublist b.row1 ∧ second.Sublist b.row2 := by
  unfold CueBody.words
  rw [List.eraseIdx_append]
  split
  · exact ⟨_, _, rfl, List.eraseIdx_sublist .., List.Sublist.refl _⟩
  · exact ⟨_, _, rfl, List.Sublist.refl _, List.eraseIdx_sublist ..⟩

/-- A cue that keeps the row law keeps it as any word is removed (R69). -/
theorem CueBody.remove_rowsFit {b : CueBody} (h : b.rowsFit) (i : Nat) : (b.remove i).rowsFit := by
  obtain ⟨first, second, hwords, sub1, sub2⟩ := b.words_eraseIdx i
  rw [CueBody.remove, hwords]
  refine CueBody.reflow_rowsFit ((rowLength_le_of_sublist sub1).trans h.row1)
    ((rowLength_le_of_sublist sub2).trans h.row2) fun some => (h.formed fun none => some ?_).2
  rw [none] at sub2
  exact List.sublist_nil.mp sub2

theorem CueBody.remove_formed (b : CueBody) (i : Nat) : (b.remove i).formed := b.reflow_formed _

@[simp] theorem CueBody.remove_words (b : CueBody) (i : Nat) : (b.remove i).words = b.words.eraseIdx i :=
  b.reflow_words _

@[simp] theorem CueBody.remove_id (b : CueBody) (i : Nat) : (b.remove i).id = b.id := b.reflow_id _

/-! ### A word put in a cue -/

/-- The rows of a cue stand as R60 has them. -/
def CueBody.standing (b : CueBody) : Prop := b.rowsFit ∧ b.formed

theorem CueBody.standing_of_empty {b : CueBody} (h1 : b.row1 = []) (h2 : b.row2 = []) : b.standing := by
  refine ⟨⟨by simp [h1], by simp [h2], fun h => absurd h2 h⟩, ?_⟩
  cases b; cases h1; cases h2; rfl

/-- The fit rule takes a word as it takes the word cut to the row width. -/
theorem CueBody.fit_cut {b : CueBody} {m : Nat} (hm : b.fit m ≠ .overflow) :
    b.fit (min b.width m) = b.fit m := by
  by_cases wide : m ≤ b.width
  · rw [Nat.min_eq_right wide]
  · rw [Nat.min_eq_left (by omega)]
    by_cases h1 : b.row1 = []
    · rw [CueBody.fit_of_empty _ h1, CueBody.fit_of_empty _ h1]
    · by_cases h2 : b.row2 = []
      · rw [CueBody.fit_new_row h1 h2 (by omega), CueBody.fit_new_row h1 h2 (by omega)]
      · rw [CueBody.fit_second_row _ h1 h2, if_neg (by omega)] at hm
        exact absurd rfl hm

/-- A word that a row takes, cut to the width, leaves the cue standing. -/
theorem CueBody.put_standing {b : CueBody} (h : b.standing) (w : PlacedWord) (hf : b.fit w.text.length ≠ .overflow) :
    (b.put (b.fit w.text.length) (w.cutTo b.width)).standing ∧
      (b.put (b.fit w.text.length) (w.cutTo b.width)).words ≠ [] := by
  obtain ⟨rows, formed⟩ := h
  have cut : (w.cutTo b.width).text.length = min b.width w.text.length := by simp [PlacedWord.cutTo]
  have placed : b.put (b.fit w.text.length) (w.cutTo b.width) = b.reflow (b.words ++ [w.cutTo b.width]) := by
    rw [CueBody.reflow_append_word, formed, CueBody.place, cut, CueBody.fit_cut hf]
  refine ⟨⟨?_, by rw [placed]; exact b.reflow_formed _⟩, by rw [placed]; simp⟩
  have narrow : (w.cutTo b.width).text.length ≤ b.width := by omega
  by_cases h1 : b.row1 = []
  · have h2 : b.row2 = [] := by
      by_contra h2
      exact (rows.formed h2).1 h1
    rw [CueBody.fit_of_empty _ h1]
    exact ⟨by simpa [CueBody.put, h1, rowLength] using narrow, by simp [CueBody.put, h2], fun a => absurd h2 a⟩
  · by_cases h2 : b.row2 = []
    · by_cases room : rowLength b.row1 + 1 + w.text.length ≤ b.width
      · rw [CueBody.fit_first_row h1 h2 room]
        refine ⟨?_, by simp [CueBody.put, h2], fun a => absurd h2 a⟩
        have := rowLength_append_word b.row1 (w.cutTo b.width)
        simp only [CueBody.put, h1, if_false] at this ⊢
        omega
      · rw [CueBody.fit_new_row h1 h2 (by omega)] at hf ⊢
        by_cases two : b.formedRows = 2
        · rw [if_pos two]
          exact ⟨rows.row1, by simpa [CueBody.put, h2, rowLength] using narrow, fun _ => ⟨h1, two⟩⟩
        · exact absurd (if_neg two) hf
    · rw [CueBody.fit_second_row _ h1 h2] at hf ⊢
      by_cases room : rowLength b.row2 + 1 + w.text.length ≤ b.width
      · rw [if_pos room]
        refine ⟨rows.row1, ?_, fun _ => rows.formed h2⟩
        have := rowLength_append_word b.row2 (w.cutTo b.width)
        simp only [CueBody.put, h2, if_false] at this ⊢
        omega
      · exact absurd (if_neg room) hf

end Sys2Proof.Machine
end

section
set_option Elab.async false
/-! SUPPORT. What a stretch of work does to the state, said once: the elementary changes, each with what it keeps of the sizes,
the bands, the texts and the stores. Every law of the device is kept by an elementary change, so by a stretch of them. -/

namespace Sys2Proof.Machine

/-! ### The laws, service by service and unit by unit -/

/-- The value and the flag of a counter agree (spec/11 R166). -/
def Counter.sound (c : Counter) : Prop := c.value ≤ counterMax ∧ (c.saturated = true → c.value = counterMax)

/-- The period history and the good count keep their sizes (spec/01 R4, R6). -/
def RefUnit.sized (u : RefUnit) : Prop :=
  u.history.length ≤ 16 ∧ u.goodCount ≤ 64 ∧ (u.state = .qualifying → u.goodCount < 64)

/-- The band law of one service, over the fields that it reads. -/
structure BandsFit (par : ServiceParams) (committed : Option Committed) (display : Display) (control : Control) : Prop where
  baseRow : 2 ≤ par.baseRow ∧ par.baseRow ≤ 15
  topRow : 1 ≤ par.topRow ∧ par.topRow ≤ 14
  committed : ∀ c, committed = some c → c.band.onScreen ∧ c.band.height = c.source.height
  shown : ∀ r, display = .showing r → r.band.onScreen
  moving : ∀ b, control = .move b → b.onScreen
  moved : ∀ b r, control = .move b → display = .showing r → b.height = r.band.height

/-- The band law of one service (spec/08 R129, R130). -/
def ServiceState.banded (v : ServiceState) : Prop := BandsFit v.par v.committed v.display v.control

theorem bandLaw_iff (s : State) : BandLaw s ↔ (∀ k, (s.service k).banded) ∧ ∀ m ∈ s.sent.output, m.bandFits :=
  ⟨fun h => ⟨fun k => ⟨h.baseRow k, h.topRow k, h.committed k, h.shown k, h.moving k, h.moved k⟩, h.sent⟩,
    fun ⟨h, sent⟩ => ⟨fun k => (h k).baseRow, fun k => (h k).topRow, fun k => (h k).committed, fun k => (h k).shown,
      fun k => (h k).moving, fun k => (h k).moved, sent⟩⟩

/-- A cue of the text law: it holds a word and stands as the fit rule forms it (spec/04 R60). -/
def CueBody.lawful (b : CueBody) : Prop := b.words ≠ [] ∧ b.standing

/-- The text law of one service. -/
def ServiceState.texted (v : ServiceState) : Prop :=
  (∀ o, v.openCue = some o → o.body.lawful) ∧ ∀ c ∈ v.queue, c.body.lawful

theorem textLaw_iff (s : State) : TextLaw s ↔ ∀ k, (s.service k).texted :=
  ⟨fun h k => ⟨h.opened k, h.queued k⟩, fun h => ⟨fun k => (h k).1, fun k => (h k).2⟩⟩

/-- The store law of service `k`, were it `v` (spec/06 R97). -/
structure State.Stores (s : State) (k : Service) (v : ServiceState) : Prop where
  cues : s.mode = .run → v.queue.length ≤ s.queueCapacity k
  enabled : s.mode = .run → v.par.enabled = true → 0 < s.queueCapacity k
  routed : s.mode = .run → v.liveRoute.isSome = true → 0 < s.queueCapacity k
  opened : s.mode = .run → v.openCue.isSome = true → 0 < s.queueCapacity k
  config : s.mode = .config → v.queue = [] ∧ v.openCue = none

/-- The store law of port `p`, were it `x`. -/
structure State.StoresIntake (s : State) (p : Port) (x : PortState) : Prop where
  intake : s.mode = .run → x.queue.length ≤ s.intakeCapacity p
  config : s.mode = .config → x.queue = []

/-- The store law of the pending list, were it `l`. -/
structure State.StoresRoutes (s : State) (l : List PendingEvent) : Prop where
  routes : s.mode = .run → ∀ e ∈ l, 0 < s.queueCapacity e.service
  config : s.mode = .config → l = []

theorem storeLaw_iff (s : State) : StoreLaw s ↔
    (∀ p, s.StoresIntake p (s.port p)) ∧ (∀ k, s.Stores k (s.service k)) ∧ s.StoresRoutes s.events :=
  ⟨fun h => ⟨fun p => ⟨fun m => h.intake m p, fun m => h.configPorts m p⟩,
      fun k => ⟨fun m => h.cues m k, fun m => h.enabled m k, fun m => h.routed m k, fun m => h.opened m k,
        fun m => h.configServices m k⟩, h.routes, h.configEvents⟩,
    fun ⟨p, k, e⟩ => ⟨fun m q => (p q).intake m, fun m l => (k l).cues m, fun m l => (k l).enabled m,
      fun m l => (k l).routed m, fun m l => (k l).opened m, e.routes, fun m q => (p q).config m,
      fun m l => (k l).config m, e.config⟩⟩

/-- What the cue queue of a service keeps of a cue: its id, its presentation time and its close time. -/
def CueRecord.key (c : CueRecord) : CueId × Smc × Smc := (c.body.id, c.present, c.close)

/-- The cues of a queue stay in their order, and those that join stand behind them and were closed at `now`. -/
def QueueStep (now : Smc) (before after : List CueRecord) : Prop :=
  ∃ kept joined, after.map CueRecord.key = kept ++ joined ∧ kept.Sublist (before.map CueRecord.key) ∧
    ∀ x ∈ joined, x.2.2 = now

theorem QueueStep.refl (now : Smc) (l : List CueRecord) : QueueStep now l l :=
  ⟨_, [], by simp, List.Sublist.refl _, by simp⟩

theorem QueueStep.of_sublist (now : Smc) {l m : List CueRecord} (h : m.Sublist l) : QueueStep now l m :=
  ⟨_, [], by simp, h.map _, by simp⟩

/-! ### Elementary changes -/

/-- What a stretch of work may touch: the output link and what stands on screen; groups, links and windows; the live route
and the parameters of services. `opens` are the services that may be given a live route, besides the enabled ones: those that
a pending event names. `supervised` stands for the commands that
replace parameters of services and the flags and enables of alerts. -/
structure Allow where
  sends : Prop
  links : Prop
  routes : Prop
  opens : Service → Prop
  supervised : Prop

/-- Nothing of these. -/
def Allow.inner : Allow := ⟨False, False, False, fun _ => False, False⟩

/-- What a change keeps of a port. -/
structure PortStep (a : Allow) (s : State) (p : Port) (x y : PortState) : Prop where
  window : x.window.length ≤ 16 → y.window.length ≤ 16 := by exact id
  history : x.history.length ≤ 8 → y.history.length ≤ 8 := by exact id
  intake : y.queue.length ≤ x.queue.length ∨ (s.mode = .run ∧ y.queue.length ≤ s.intakeCapacity p) := by
    exact Or.inl (Nat.le_refl _)
  links : a.links ∨ (y.link = x.link ∧ y.par.kind = x.par.kind ∧ y.par.group = x.par.group ∧ y.window = x.window) := by
    exact Or.inr ⟨rfl, rfl, rfl, rfl⟩

/-- What a change keeps of a group. -/
structure GroupStep (a : Allow) (x y : GroupState) : Prop where
  links : a.links ∨ (y.onAir = x.onAir ∧ y.taking = x.taking ∧ y.yielding = x.yielding ∧
    y.yieldDeadline = x.yieldDeadline) := by exact Or.inr ⟨rfl, rfl, rfl, rfl⟩

/-- What a change keeps of a service. -/
structure ServiceStep (a : Allow) (s : State) (k : Service) (v w : ServiceState) : Prop where
  switches : v.switches.length ≤ 4 → w.switches.length ≤ 4 := by exact id
  deficit : v.deficit ≤ 512 → w.deficit ≤ 512 := by exact id
  bands : v.banded → w.banded := by exact id
  texts : v.texted → w.texted := by exact id
  stores : (s.mode = .run → a.opens k → 0 < s.queueCapacity k) → s.Stores k v → s.Stores k w := by
    exact fun _ h => ⟨h.1, h.2, h.3, h.4, h.5⟩
  queue : QueueStep s.now v.queue w.queue := by exact QueueStep.refl _ _
  shown : ∀ r, w.display = .showing r →
    (∃ r', v.display = .showing r' ∧ r'.shown = r.shown) ∨ (a.sends ∧ r.shown = s.now) := by
      exact fun r h => Or.inl ⟨r, h, rfl⟩
  routes : a.routes ∨ (w.liveRoute = v.liveRoute ∧ w.par = v.par) := by exact Or.inr ⟨rfl, rfl⟩
  enabled : a.supervised ∨ w.par.enabled = v.par.enabled := by exact Or.inr rfl

/-- What a change keeps of an alert. -/
structure AlertStep (a : Allow) (x y : AlertState) : Prop where
  kept : a.supervised ∨ ((x.flag = true → y.flag = true) ∧ y.enable = x.enable)

/-- What a change keeps of the pending list. -/
structure EventsStep (a : Allow) (s : State) (l : List PendingEvent) : Prop where
  size : s.events.length ≤ 32 → l.length ≤ 32
  config : s.mode = .config → s.events = [] → l = []
  from_ : ∀ e ∈ l, (∃ e' ∈ s.events, e'.service = e.service) ∨ a.opens e.service

/-- The ids of a package table. -/
def tableIds (t : List (Option PackageRecord)) : List PackageId := (t.filterMap id).map PackageRecord.id

/-- What a change keeps of the package table. -/
structure PackagesStep (s : State) (t : List (Option PackageRecord)) : Prop where
  slots : t.length = s.packages.length
  ids : (tableIds s.packages).Nodup → (tableIds t).Nodup
  pool : (tableIds s.packages).Nodup →
    poolUse t ≤ poolUse s.packages ∨ (s.mode = .run ∧ poolUse t ≤ s.poolCapacity)

/-- The messages that the display of a service sends: the SHOW of its committed cue, a CLEAR, or its pending MOVE. -/
inductive DisplaySends (v : ServiceState) (k : Service) : OutputMsg → Prop
  | showCue {c} (h : v.committed = some c) : DisplaySends v k (c.message k)
  | clear : DisplaySends v k (.clear k)
  | move {b} (h : v.control = .move b) : DisplaySends v k (.move k b)

/-- The elementary changes of the state while the mode, the layout and the SMC stand. -/
inductive Change (a : Allow) : State → State → Prop
  | quiet {s t : State} (h : SameBut [.silenceTimeout, .schedMode, .budget, .roundRobin, .inserter, .busyCount, .sup,
      .freeIndex] s t) : Change a s t
  | alerts (s : State) (as : Per8 AlertState) (h : ∀ i, AlertStep a (s.alerts.get i) (as.get i)) :
      Change a s { s with alerts := as }
  | counters (s : State) (cs : Per8 Counter) (h : ∀ i, (s.counters.get i).sound → (cs.get i).sound) :
      Change a s { s with counters := cs }
  | unit (s : State) (u : RefUnit) (smc : u.smc = s.ref.smc) (h : s.ref.sized → u.sized) : Change a s { s with ref := u }
  | ports (s : State) (t : Per8 PortState) (h : ∀ p, PortStep a s p (s.port p) (t.get p)) :
      Change a s { s with ports := t }
  | groups (s : State) (t : Per4 GroupState) (h : ∀ g, GroupStep a (s.group g) (t.get g)) :
      Change a s { s with groups := t }
  | services (s : State) (t : Per4 ServiceState) (h : ∀ k, ServiceStep a s k (s.service k) (t.get k)) :
      Change a s { s with services := t }
  | events (s : State) (l : List PendingEvent) (h : EventsStep a s l) : Change a s { s with events := l }
  | packages (s : State) (t : List (Option PackageRecord)) (h : PackagesStep s t) : Change a s { s with packages := t }
  | pool (s : State) (r : Region) (config : s.mode = .config) :
      Change a s { s with poolRegion := r, packages := List.replicate 32 none }
  | send (s : State) (x : Sent) (output : x.output = s.sent.output)
      (automation : x.automation = s.sent.automation ∨ s.mode = .run) : Change a s { s with sent := x }
  | output (s : State) (k : Service) (m : OutputMsg) (allowed : a.sends) (h : DisplaySends (s.service k) k m) :
      Change a s (s.sendOutput m)

/-- A stretch of elementary changes. -/
abbrev Changes (a : Allow) : State → State → Prop := Relation.ReflTransGen (Change a)

/-- A stretch of changes keeps what each change keeps. -/
theorem Changes.keeps {a : Allow} {P : State → Prop} (h : ∀ s t, Change a s t → P s → P t) {s t : State}
    (c : Changes a s t) : P s → P t := by
  induction c with
  | refl => exact id
  | tail _ last ih => exact fun hs => h _ _ last (ih hs)

/-! ### The fields that no change touches -/

theorem Change.mode {a : Allow} {s t : State} (h : Change a s t) : t.mode = s.mode := by
  cases h with
  | quiet h => exact h .mode (by simp)
  | _ => rfl

theorem Change.layout {a : Allow} {s t : State} (h : Change a s t) : t.layout = s.layout := by
  cases h with
  | quiet h => exact h .layout (by simp)
  | _ => rfl

theorem Change.smc {a : Allow} {s t : State} (h : Change a s t) : t.ref.smc = s.ref.smc := by
  cases h with
  | quiet h => exact congrArg RefUnit.smc (h .ref (by simp))
  | unit u smc => exact smc
  | _ => rfl

theorem Changes.mode {a : Allow} {s t : State} (h : Changes a s t) : t.mode = s.mode :=
  h.keeps (P := fun u => u.mode = s.mode) (fun _ _ c e => c.mode.trans e) rfl

theorem Changes.layout {a : Allow} {s t : State} (h : Changes a s t) : t.layout = s.layout :=
  h.keeps (P := fun u => u.layout = s.layout) (fun _ _ c e => c.layout.trans e) rfl

theorem Changes.smc {a : Allow} {s t : State} (h : Changes a s t) : t.ref.smc = s.ref.smc :=
  h.keeps (P := fun u => u.ref.smc = s.ref.smc) (fun _ _ c e => c.smc.trans e) rfl

/-! ### What each table and list becomes -/

theorem Change.services_step {a : Allow} {s t : State} (h : Change a s t) (k : Service) :
    ServiceStep a s k (s.service k) (t.service k) := by
  have same {u : ServiceState} (e : u = s.service k) : ServiceStep a s k (s.service k) u := e ▸ {}
  cases h with
  | quiet h => exact same (congrArg (fun x => Per4.get x k) (h .services (by simp)))
  | services tbl h => exact h k
  | _ => exact same rfl

theorem Change.ports_step {a : Allow} {s t : State} (h : Change a s t) (p : Port) :
    PortStep a s p (s.port p) (t.port p) := by
  have same {u : PortState} (e : u = s.port p) : PortStep a s p (s.port p) u := e ▸ {}
  cases h with
  | quiet h => exact same (congrArg (fun x => Per8.get x p) (h .ports (by simp)))
  | ports tbl h => exact h p
  | _ => exact same rfl

theorem Change.groups_step {a : Allow} {s t : State} (h : Change a s t) (g : Group) :
    GroupStep a (s.group g) (t.group g) := by
  have same {u : GroupState} (e : u = s.group g) : GroupStep a (s.group g) u := e ▸ {}
  cases h with
  | quiet h => exact same (congrArg (fun x => Per4.get x g) (h .groups (by simp)))
  | groups tbl h => exact h g
  | _ => exact same rfl

theorem Change.events_step {a : Allow} {s t : State} (h : Change a s t) : EventsStep a s t.events := by
  have same {l : List PendingEvent} (e : l = s.events) : EventsStep a s l :=
    e ▸ ⟨id, fun _ => id, fun e he => Or.inl ⟨e, he, rfl⟩⟩
  cases h with
  | quiet h => exact same (h .events (by simp))
  | events l h => exact h
  | _ => exact same rfl

theorem Change.unit_step {a : Allow} {s t : State} (h : Change a s t) : s.ref.sized → t.ref.sized := by
  cases h with
  | quiet h => exact (h .ref (by simp) : t.ref = s.ref) ▸ id
  | unit u smc h => exact h
  | _ => exact id

theorem Change.counters_step {a : Allow} {s t : State} (h : Change a s t) (i : Fin 8) :
    (s.counters.get i).sound → (t.counters.get i).sound := by
  cases h with
  | quiet h => exact (h .counters (by simp) : t.counters = s.counters) ▸ id
  | counters cs h => exact h i
  | _ => exact id

theorem Change.alerts_step {a : Allow} {s t : State} (h : Change a s t) (i : Fin 8) :
    AlertStep a (s.alerts.get i) (t.alerts.get i) := by
  have same {x : Per8 AlertState} (e : x = s.alerts) : AlertStep a (s.alerts.get i) (x.get i) := e ▸ ⟨Or.inr ⟨id, rfl⟩⟩
  cases h with
  | quiet h => exact same (h .alerts (by simp))
  | alerts as h => exact h i
  | _ => exact same rfl

theorem Change.output_step {a : Allow} {s t : State} (h : Change a s t) :
    t.sent.output = s.sent.output ∨
      a.sends ∧ ∃ k m, DisplaySends (s.service k) k m ∧ t.sent.output = s.sent.output ++ [m] := by
  cases h with
  | quiet h => exact Or.inl (congrArg Sent.output (h .sent (by simp)))
  | send x output => exact Or.inl output
  | output k m allowed h => exact Or.inr ⟨allowed, k, m, h, rfl⟩
  | _ => exact Or.inl rfl

theorem Change.automation_step {a : Allow} {s t : State} (h : Change a s t) :
    t.sent.automation = s.sent.automation ∨ s.mode = .run := by
  cases h with
  | quiet h => exact Or.inl (congrArg Sent.automation (h .sent (by simp)))
  | send x output automation => exact automation
  | _ => exact Or.inl rfl

/-! ### Each law is kept -/

theorem counterLaw_iff (s : State) : CounterLaw s ↔ ∀ i, (s.counters.get i).sound := Iff.rfl

theorem Change.counterLaw {a : Allow} {s t : State} (h : Change a s t) (law : CounterLaw s) : CounterLaw t :=
  fun i => h.counters_step i (law i)

theorem Change.sizeLaw {a : Allow} {s t : State} (h : Change a s t) (law : SizeLaw s) : SizeLaw t := by
  obtain ⟨history, good, counting⟩ := h.unit_step ⟨law.intervals, law.goodCount, law.counting⟩
  exact {
    events := h.events_step.size law.events
    switches := fun k => (h.services_step k).switches (law.switches k)
    window := fun p => (h.ports_step p).window (law.window p)
    history := fun p => (h.ports_step p).history (law.history p)
    intervals := history
    goodCount := good
    counting := counting
    deficit := fun k => (h.services_step k).deficit (law.deficit k) }

/-- What the display of a service sends fits the screen while its bands do. -/
theorem DisplaySends.bandFits {v : ServiceState} {k : Service} {m : OutputMsg} (h : DisplaySends v k m) (law : v.banded) :
    m.bandFits := by
  cases h with
  | @showCue c h =>
    obtain ⟨onScreen, height⟩ := law.committed c h
    rcases hc : c.source with x | x <;> rw [hc] at height <;> simp only [Committed.message, hc]
    · refine ⟨onScreen, height.trans ?_⟩
      by_cases h2 : x.body.row2 = [] <;> simp [CommittedSource.height, CueBody.height, h2]
    · exact ⟨onScreen, height⟩
  | clear => trivial
  | move h => exact law.moving _ h

theorem Change.bandLaw {a : Allow} {s t : State} (h : Change a s t) (law : BandLaw s) : BandLaw t := by
  obtain ⟨bands, sent⟩ := (bandLaw_iff s).mp law
  refine (bandLaw_iff t).mpr ⟨fun k => (h.services_step k).bands (bands k), ?_⟩
  rcases h.output_step with same | ⟨-, k, m, hm, more⟩
  · rwa [same]
  · rw [more]
    intro x hx
    rcases List.mem_append.mp hx with old | new
    · exact sent x old
    · exact List.mem_singleton.mp new ▸ hm.bandFits (bands k)

theorem Change.textLaw {a : Allow} {s t : State} (h : Change a s t) (law : TextLaw s) : TextLaw t :=
  (textLaw_iff t).mpr fun k => (h.services_step k).texts ((textLaw_iff s).mp law k)

theorem Change.packageLaw {a : Allow} {s t : State} (h : Change a s t) (law : PackageLaw s) : PackageLaw t := by
  have same (hp : t.packages = s.packages) (hr : t.poolRegion = s.poolRegion) : PackageLaw t := {
    slots := hp ▸ law.slots
    distinct := by rw [State.packageRecords, hp]; exact law.distinct
    pool := by rw [hp, hr]; exact law.pool
    inForce := fun run => by rw [State.poolCapacity_congr h.layout, hr]; exact law.inForce (h.mode ▸ run) }
  cases h with
  | quiet h => exact same (h .packages (by simp)) (h .poolRegion (by simp))
  | packages tbl h =>
    refine ⟨h.slots.trans law.slots, h.ids law.distinct, ?_, law.inForce⟩
    rcases h.pool law.distinct with less | ⟨run, less⟩
    · exact less.trans law.pool
    · exact less.trans (law.inForce run).le
  | pool r config => exact ⟨rfl, List.nodup_nil, Nat.zero_le _, fun run => by cases config.symm.trans run⟩
  | _ => exact same rfl rfl

theorem State.Stores.congr {s t : State} (mode : t.mode = s.mode) (layout : t.layout = s.layout) {k : Service}
    {v : ServiceState} (h : s.Stores k v) : t.Stores k v := by
  have capacity := State.queueCapacity_congr layout k
  exact ⟨fun run => capacity ▸ h.cues (mode ▸ run), fun run => capacity ▸ h.enabled (mode ▸ run),
    fun run => capacity ▸ h.routed (mode ▸ run), fun run => capacity ▸ h.opened (mode ▸ run),
    fun config => h.config (mode ▸ config)⟩

theorem Change.storeLaw {a : Allow} {s t : State} (h : Change a s t)
    (opens : s.mode = .run → ∀ k, a.opens k → 0 < s.queueCapacity k) (law : StoreLaw s) : StoreLaw t := by
  obtain ⟨ports, services, routes⟩ := (storeLaw_iff s).mp law
  refine (storeLaw_iff t).mpr ⟨fun p => ⟨fun run => ?intake, fun config => ?configPort⟩, fun k => ?service,
    fun run e he => ?routes, fun config => ?configEvents⟩
  case intake =>
    rw [State.intakeCapacity_congr h.layout]
    rcases (h.ports_step p).intake with less | ⟨-, room⟩
    · exact less.trans ((ports p).intake (h.mode ▸ run))
    · exact room
  case configPort =>
    rcases (h.ports_step p).intake with less | ⟨run, -⟩
    · exact List.eq_nil_of_length_eq_zero (by simpa [(ports p).config (h.mode ▸ config)] using less)
    · cases (h.mode.symm.trans config).symm.trans run
  case service =>
    exact ((h.services_step k).stores (fun run => opens run k) (services k)).congr h.mode h.layout
  case routes =>
    rw [State.queueCapacity_congr h.layout]
    rcases h.events_step.from_ e he with ⟨e', he', same⟩ | allowed
    · exact same ▸ routes.routes (h.mode ▸ run) e' he'
    · exact opens (h.mode ▸ run) e.service allowed
  case configEvents => exact h.events_step.config (h.mode ▸ config) (routes.config (h.mode ▸ config))

theorem Changes.storeLaw {a : Allow} {s t : State} (h : Changes a s t)
    (opens : s.mode = .run → ∀ k, a.opens k → 0 < s.queueCapacity k) (law : StoreLaw s) : StoreLaw t := by
  induction h with
  | refl => exact law
  | @tail u w first last ih =>
    refine last.storeLaw (fun run k hk => ?_) ih
    rw [State.queueCapacity_congr (Changes.layout first)]
    exact opens ((Changes.mode first).symm.trans run) k hk

/-- Every pending event names a service that may be given a live route. -/
def State.Owned (a : Allow) (s : State) : Prop := ∀ e ∈ s.events, a.opens e.service

theorem Change.owned {a : Allow} {s t : State} (h : Change a s t) (owned : s.Owned a) : t.Owned a := by
  intro e he
  rcases h.events_step.from_ e he with ⟨e', he', same⟩ | allowed
  · exact same ▸ owned e' he'
  · exact allowed

theorem Changes.owned {a : Allow} {s t : State} (h : Changes a s t) (owned : s.Owned a) : t.Owned a :=
  h.keeps (fun _ _ => Change.owned) owned

/-! ### What a stretch of changes makes of a queue, a display and the routes -/

theorem QueueStep.trans {now : Smc} {l m n : List CueRecord} (h : QueueStep now l m) (k : QueueStep now m n) :
    QueueStep now l n := by
  obtain ⟨kept, joined, hm, sub, new⟩ := h
  obtain ⟨kept', joined', hn, sub', new'⟩ := k
  rw [hm] at sub'
  obtain ⟨a, b, rfl, ha, hb⟩ := List.sublist_append_iff.mp sub'
  refine ⟨a, b ++ joined', by simp [hn], ha.trans sub, fun x hx => ?_⟩
  rcases List.mem_append.mp hx with old | late
  · exact new x (hb.subset old)
  · exact new' x late

theorem Changes.queue {a : Allow} {s t : State} (h : Changes a s t) (k : Service) :
    QueueStep s.now (s.service k).queue (t.service k).queue := by
  induction h with
  | refl => exact QueueStep.refl _ _
  | @tail u w first last ih =>
    have now : u.now = s.now := Changes.smc first
    exact ih.trans (now ▸ (last.services_step k).queue)

theorem Changes.shown {a : Allow} {s t : State} (h : Changes a s t) (k : Service) :
    ∀ r, (t.service k).display = .showing r →
      (∃ r', (s.service k).display = .showing r' ∧ r'.shown = r.shown) ∨ (a.sends ∧ r.shown = s.now) := by
  induction h with
  | refl => exact fun r hr => Or.inl ⟨r, hr, rfl⟩
  | @tail u w first last ih =>
    intro r hr
    have now : u.now = s.now := Changes.smc first
    rcases (last.services_step k).shown r hr with ⟨r', hr', same⟩ | sent
    · rcases ih r' hr' with ⟨q, hq, e⟩ | ⟨ha, e⟩
      · exact Or.inl ⟨q, hq, e.trans same⟩
      · exact Or.inr ⟨ha, same ▸ e⟩
    · exact Or.inr (now ▸ sent)

theorem Changes.routes {a : Allow} (fixed : ¬ a.routes) {s t : State} (h : Changes a s t) (k : Service) :
    (t.service k).liveRoute = (s.service k).liveRoute ∧ (t.service k).par = (s.service k).par :=
  h.keeps (P := fun u => (u.service k).liveRoute = (s.service k).liveRoute ∧ (u.service k).par = (s.service k).par)
    (fun _ _ c e =>
      let ⟨route, par⟩ := (c.services_step k).routes.resolve_left fixed
      ⟨route.trans e.1, par.trans e.2⟩) ⟨rfl, rfl⟩

theorem Changes.output {a : Allow} (silent : ¬ a.sends) {s t : State} (h : Changes a s t) :
    t.sent.output = s.sent.output :=
  h.keeps (P := fun u => u.sent.output = s.sent.output)
    (fun _ _ c e => (c.output_step.resolve_right fun x => silent x.1).trans e) rfl

theorem Changes.automation {a : Allow} {s t : State} (h : Changes a s t) (config : s.mode = .config) :
    t.sent.automation = s.sent.automation := by
  induction h with
  | refl => rfl
  | @tail u w first last ih =>
    refine (last.automation_step.resolve_right fun run => ?_).trans ih
    cases config.symm.trans ((Changes.mode first).symm.trans run)

end Sys2Proof.Machine
end

section
set_option Elab.async false
/-! SUPPORT. Which elementary changes the shared operations of the part are made of: flags, ports, cues and their closing. -/

namespace Sys2Proof.Machine

variable {a : Allow} {s t : State}

/-! ### Rules of a stretch of work -/

theorem Changes.quiet {u : State} (h : Changes a s t)
    (q : SameBut [.silenceTimeout, .schedMode, .budget, .roundRobin, .inserter, .busyCount, .sup, .freeIndex] t u) :
    Changes a s u := h.tail (.quiet q)

theorem Changes.foldl {α : Type} {f : State → α → State} {l : List α} (h : Changes a s t)
    (step : ∀ u, Changes a s u → ∀ x ∈ l, Changes a s (f u x)) : Changes a s (l.foldl f t) := by
  induction l generalizing t with
  | nil => exact h
  | cons x l ih => exact ih (step t h x (by simp)) fun u hu y hy => step u hu y (by simp [hy])

theorem Changes.ite {u v : State} {c : Prop} [Decidable c] (yes : c → Changes a s u) (no : ¬ c → Changes a s v) :
    Changes a s (if c then u else v) := by
  split
  · exact yes ‹_›
  · exact no ‹_›

theorem Changes.setService {k : Service} {w : ServiceState} (h : Changes a s t)
    (step : ServiceStep a t k (t.service k) w) : Changes a s (t.setService k w) :=
  h.tail (.services t _ fun l => by
    rw [Per4.get_set]
    split
    next same => exact same ▸ step
    next => exact {})

theorem Changes.setPort {p : Port} {x : PortState} (h : Changes a s t) (step : PortStep a t p (t.port p) x) :
    Changes a s (t.setPort p x) :=
  h.tail (.ports t _ fun q => by
    rw [Per8.get_set]
    split
    next same => exact same ▸ step
    next => exact {})

theorem Changes.setGroup {g : Group} {x : GroupState} (h : Changes a s t) (step : GroupStep a (t.group g) x) :
    Changes a s (t.setGroup g x) :=
  h.tail (.groups t _ fun q => by
    rw [Per4.get_set]
    split
    next same => exact same ▸ step
    next => exact {})

/-! ### Counters and alerts -/

theorem Counter.sound.add {c : Counter} (h : c.sound) (n : Nat) : (c.add n).sound := by
  by_cases idle : c.saturated = true ∨ n = 0
  · rwa [Counter.add_of_idle idle]
  · obtain ⟨clear, nonzero⟩ := not_or.mp idle
    rw [Bool.not_eq_true] at clear
    rcases Nat.lt_or_ge (c.value + n) counterMax with below | limit
    · rw [Counter.add_of_below clear nonzero below]
      exact ⟨below.le, fun sat => by cases clear.symm.trans sat⟩
    · rw [Counter.add_of_limit clear nonzero limit]
      exact ⟨le_rfl, fun _ => rfl⟩

theorem Counter.sound.offered {c : Counter} (h : c.sound) (o : Occurrence) : (c.offered o).sound := by
  unfold Counter.offered
  split
  · exact h.add _
  · exact h

theorem Counter.sound.sampled {c : Counter} (h : c.sound) (levels : List Nat) : (c.sampled levels).sound := by
  rw [Counter.sampled]
  generalize hm : (fun (d : Counter) (level : Nat) => d.add (c.measure level)) = f
  have step : ∀ d level, d.sound → (f d level).sound := fun d level hd => hm ▸ hd.add _
  clear hm
  induction levels generalizing c with
  | nil => exact h
  | cons x l ih => exact ih (step _ x h)

theorem Counter.sound_cleared (c : Counter) : c.clear.sound := ⟨Nat.zero_le _, fun sat => by cases sat⟩

theorem MarksSaturated.alertStep (h : MarksSaturated s t) (i : Fin 8) : AlertStep a (s.alerts.get i) (t.alerts.get i) := by
  by_cases other : i = 7
  · subst other
    exact ⟨Or.inr ⟨fun on => h.flag.mpr (Or.inl on), h.enable⟩⟩
  · rw [h.others i other]
    exact ⟨Or.inr ⟨id, rfl⟩⟩

theorem Changes.watchers {u : State} (h : Changes a s t) (frame : SameBut [.counters, .alerts] t u)
    (marks : MarksSaturated t u) (sound : ∀ i, (t.counters.get i).sound → (u.counters.get i).sound) :
    Changes a s u := by
  have counted : Changes a s { t with counters := u.counters } := h.tail (.counters t u.counters sound)
  rw [frame.withWatchers]
  exact counted.tail (.alerts _ u.alerts fun i => marks.alertStep i)

theorem Changes.raise (h : Changes a s t) (o : Occurrence) : Changes a s (t.raise o) :=
  h.watchers (raise_frame t o) (raise_marksSaturated t o) fun i hi => by rw [State.raise_counters_get]; exact hi.offered o

theorem Changes.raiseIf (h : Changes a s t) (b : Bool) (o : Occurrence) : Changes a s (t.raiseIf b o) := by
  cases b
  · exact h
  · exact h.raise o

theorem Changes.raiseTimes (h : Changes a s t) (o : Occurrence) (n : Nat) : Changes a s (t.raiseTimes o n) := by
  induction n generalizing t with
  | zero => exact h
  | succ n ih => rw [State.raiseTimes_succ]; exact ih (h.raise o)

theorem Changes.sampleLevels (h : Changes a s t) : Changes a s t.sampleLevels :=
  h.watchers (sampleLevels_frame t) (sampleLevels_marksSaturated t) fun i hi => by rw [State.sampleLevels_counters_get]; exact hi.sampled _

theorem Changes.setAlert (h : Changes a s t) (x : Alert) (o : Option (Fin 8)) : Changes a s (t.setAlert x o) :=
  h.tail (.alerts t _ fun i => by
    rw [Per8.get_set]
    split
    next same => subst same; exact ⟨Or.inr ⟨fun _ => by cases o <;> rfl, by cases o <;> rfl⟩⟩
    next => exact ⟨Or.inr ⟨id, rfl⟩⟩)

/-! ### Messages on the contributor and automation links -/

theorem Changes.sendPort (h : Changes a s t) (p : Port) (m : PortMsg) : Changes a s (t.sendPort p m) :=
  h.tail (.send t _ rfl (Or.inl rfl))

theorem Changes.sendAnswer (h : Changes a s t) (run : t.mode = .run) (x : Answer) : Changes a s (t.sendAnswer x) :=
  h.tail (.send t _ rfl (Or.inr run))

theorem Changes.enterLink (h : Changes a s t) (links : a.links) (p : Port) (l : LinkState) :
    Changes a s (t.enterLink p l) :=
  (h.setPort { links := Or.inl links }).sendPort p _

/-! ### Placements and retract histories -/

theorem Changes.mapPlacements (h : Changes a s t) (f : Placement → Placement) : Changes a s (t.mapPlacements f) :=
  h.tail (.ports t _ fun p => by rw [Per8.get_map]; exact { history := fun short => by simpa [State.port] using short })

theorem Changes.markCue (h : Changes a s t) (k : Service) (id : CueId) (st : PlacementState) :
    Changes a s (t.markCue k id st) := h.mapPlacements _

theorem Changes.renumberCue (h : Changes a s t) (k : Service) (b c : CueBody) (i : Nat) :
    Changes a s (t.renumberCue k b c i) := h.mapPlacements _

theorem keepNewest_length_le {α : Type} (n : Nat) (l : List α) : (keepNewest n l).length ≤ n := by
  simp only [keepNewest, List.length_drop]
  omega

theorem Changes.joinHistory (h : Changes a s t) (p : Port) (e : HistoryEntry) : Changes a s (t.joinHistory p e) :=
  h.setPort { history := fun _ => keepNewest_length_le 8 _ }

theorem Changes.clearHistory (h : Changes a s t) (p : Port) : Changes a s (t.clearHistory p) :=
  h.setPort { history := fun _ => Nat.zero_le _ }

/-! ### The close of a cue -/

/-- The state as a close leaves it before the timed cue is settled, with `v` as the service. -/
def State.closing (s : State) (k : Service) (x : Timed) (v : ServiceState) : State :=
  (((s.setService k v).raise (serviceEvent .cueClosed k)).raiseIf x.record.lateClose (serviceEvent .cueLateClose k)).raiseIf
    x.record.heldByPrevious (serviceEvent .cueHeld k)

/-- The service whose open cue has closed with a timing. -/
def ServiceState.closed (v : ServiceState) (x : Timed) : ServiceState :=
  { v with openCue := none, lastLateness := some x.record.lateness, phase := nextPhase v.phase v.par.lateLimit x.record.lateness }

@[simp] theorem State.closing_service (s : State) (k : Service) (x : Timed) (v : ServiceState) (l : Service) :
    (s.closing k x v).service l = if l = k then v else s.service l := by simp [State.closing]
@[simp] theorem State.closing_queueCapacity (s : State) (k : Service) (x : Timed) (v : ServiceState) (l : Service) :
    (s.closing k x v).queueCapacity l = s.queueCapacity l := by simp [State.closing]
@[simp] theorem State.closing_setService (s : State) (k : Service) (x : Timed) (v w : ServiceState) :
    (s.closing k x v).setService k w = s.closing k x w := by
  simp only [State.closing, State.raiseIf_setService, State.raise_setService, State.setService_setService]

theorem State.closeCue_of_none {s : State} {k : Service} (h : (s.service k).openCue = none) : s.closeCue k = s := by
  simp [State.closeCue, State.timeOpen, h]

theorem State.closeCue_of_some {s : State} {k : Service} {o : OpenCue} (h : (s.service k).openCue = some o) {x : Timed}
    (timed : x = timeCue s.ref (s.service k) o.body s.now) :
    s.closeCue k = (s.closing k x { s.service k with openCue := none }).settleTimed k x := by
  subst timed
  simp only [State.closeCue, State.timeOpen, h, Option.map_some, State.closing]

theorem State.settleTimed_of_cut {s : State} {x : Timed} (k : Service) (h : x.cut = true) :
    s.settleTimed k x = (s.markCue k x.record.body.id .gone).raise (serviceEvent .cueCut k) := if_pos h

theorem State.settleTimed_of_kept {s : State} {x : Timed} {k : Service} {v : ServiceState} (h : x.cut = false) :
    (s.closing k x { v with openCue := none }).settleTimed k x =
      (s.closing k x (v.closed x)).insertCue k x.record := by
  rw [State.settleTimed, if_neg (by simp [h])]
  simp only [State.closing_service, if_true, State.closing_setService]
  rfl

/-- A cue inserted behind what stays of the queue, in one replacement of the service. -/
theorem State.insertCue_closing (s : State) (k : Service) (x : Timed) (v : ServiceState) :
    ∃ kept : List CueRecord, kept.Sublist v.queue ∧
      (0 < s.queueCapacity k → kept.length < s.queueCapacity k ∨ kept.length < v.queue.length) ∧
      ∀ {a : Allow} {r : State}, Changes a r (s.closing k x { v with queue := kept ++ [x.record] }) →
        Changes a r ((s.closing k x v).insertCue k x.record) := by
  rcases Nat.lt_or_ge v.queue.length (s.queueCapacity k) with room | full
  · refine ⟨v.queue, List.Sublist.refl _, fun _ => Or.inl room, fun h => ?_⟩
    rw [State.insertCue_of_room _ (by simpa using room)]
    simpa using h
  · cases hq : v.queue with
    | nil =>
      refine ⟨[], List.Sublist.refl _, fun some => ?_, fun h => ?_⟩
      · rw [hq, List.length_nil] at full; omega
      · simpa [State.insertCue, hq, Nat.not_lt.mpr (hq ▸ full)] using h
    | cons c rest =>
      refine ⟨rest, List.sublist_cons_self c rest, fun _ => Or.inr (by simp), fun h => ?_⟩
      rw [State.insertCue_of_full (h := c) (rest := rest) _ (by simpa using hq) (by simpa using full)]
      refine ((Changes.markCue ?_ k _ _).raise _).setAlert _ _
      simpa using h

theorem closed_step {t : State} {k : Service} {o : OpenCue} (opened : (t.service k).openCue = some o) {x : Timed}
    (timed : x = timeCue t.ref (t.service k) o.body t.now) {kept : List CueRecord} (sub : kept.Sublist (t.service k).queue)
    (room : 0 < t.queueCapacity k → kept.length < t.queueCapacity k ∨ kept.length < (t.service k).queue.length) :
    ServiceStep a t k (t.service k) { (t.service k).closed x with queue := kept ++ [x.record] } where
  texts := fun ⟨open_, queue⟩ => ⟨fun _ no => (by cases no), fun c hc => by
    rcases List.mem_append.mp hc with old | new
    · exact queue c (sub.subset old)
    · rw [List.mem_singleton.mp new, timed]; exact open_ o opened⟩
  stores := fun _ h => {
    cues := fun run => by
      have some := h.opened run (by simp [opened])
      have bound := h.cues run
      have := room some
      simp only [List.length_append, List.length_singleton]
      omega
    enabled := h.enabled
    routed := h.routed
    opened := fun _ no => by cases no
    config := fun config => by cases opened.symm.trans (h.config config).2 }
  queue := ⟨kept.map CueRecord.key, [x.record.key], by simp, sub.map _, by simp [timed, timeCue, CueRecord.key]⟩

theorem Changes.closing {k : Service} {x : Timed} {v : ServiceState} (h : Changes a s t)
    (step : ServiceStep a t k (t.service k) v) : Changes a s (t.closing k x v) :=
  (((h.setService step).raise _).raiseIf _ _).raiseIf _ _

theorem Changes.closeCue (h : Changes a s t) (k : Service) : Changes a s (t.closeCue k) := by
  rcases opened : (t.service k).openCue with _ | o
  · rwa [State.closeCue_of_none opened]
  · rw [State.closeCue_of_some opened rfl]
    generalize timed : timeCue t.ref (t.service k) o.body t.now = x
    cases cut : x.cut
    · rw [State.settleTimed_of_kept cut]
      obtain ⟨kept, sub, room, settle⟩ := t.insertCue_closing k x ((t.service k).closed x)
      exact settle (h.closing (closed_step opened timed.symm sub room))
    · rw [State.settleTimed_of_cut k cut]
      refine ((h.closing ?_).markCue k _ _).raise _
      exact {
        texts := fun ⟨_, queue⟩ => ⟨fun _ no => (by cases no), queue⟩
        stores := fun _ h => { h with opened := fun _ no => (by cases no), config := fun c => ⟨(h.config c).1, rfl⟩ } }

theorem Changes.closeRouted (h : Changes a s t) (g : Group) : Changes a s (t.closeRouted g) :=
  h.foldl fun _ hu k _ => Changes.ite (fun _ => hu.closeCue k) fun _ => hu

end Sys2Proof.Machine
end

section
set_option Elab.async false
/-! SUPPORT. Which elementary changes the cue assembler, the relay controller and the contributor links are made of. -/

namespace Sys2Proof.Machine

variable {a : Allow} {s t : State}

/-! ### Routes -/

theorem Allow.inner_fixed : ¬ Allow.inner.routes := id

theorem State.closeCue_par (s : State) (k l : Service) : ((s.closeCue k).service l).par = (s.service l).par :=
  (Changes.routes Allow.inner_fixed (Changes.closeCue .refl k) l).2

theorem State.closeCue_liveRoute (s : State) (k l : Service) :
    ((s.closeCue k).service l).liveRoute = (s.service l).liveRoute :=
  (Changes.routes Allow.inner_fixed (Changes.closeCue .refl k) l).1

@[simp] theorem State.closeCue_mode (s : State) (k : Service) : (s.closeCue k).mode = s.mode :=
  Changes.mode (Changes.closeCue (a := Allow.inner) .refl k)

theorem Changes.changeRoute (h : Changes a s t) (routes : a.routes) (k : Service) (g : Option Group)
    (may : g.isSome = true → t.mode = .run → a.opens k ∨ (t.service k).par.enabled = true) :
    Changes a s (t.changeRoute k g) := by
  refine Changes.ite (fun _ => h) fun _ => (h.closeCue k).setService {
    stores := fun opens law => {
      cues := law.cues, enabled := law.enabled, opened := law.opened, config := law.config
      routed := fun run some => ?_ }
    routes := Or.inl routes }
  rcases may some (by simpa using run) with allowed | enabled
  · exact opens run allowed
  · exact law.enabled run (by rwa [State.closeCue_par])

/-! ### Words taken out of cues -/

theorem CueBody.lawful.remove {b : CueBody} (h : b.lawful) {i : Nat} (some : (b.remove i).words ≠ []) :
    (b.remove i).lawful :=
  ⟨some, CueBody.remove_rowsFit h.2.1 i, b.remove_formed i⟩

theorem OpenCue.without_eq {o o' : OpenCue} {i : Nat} (h : o.without i = some o') :
    (o.body.remove i).words ≠ [] ∧ o' = { o with body := o.body.remove i } := by
  dsimp only [OpenCue.without] at h
  split at h
  · cases h
  · exact ⟨‹_›, (Option.some.inj h).symm⟩

theorem CueRecord.without_eq {c c' : CueRecord} {par : ServiceParams} {i : Nat} (h : c.without par i = some c') :
    (c.body.remove i).words ≠ [] ∧
      c' = { c with body := c.body.remove i, reading := readingTime par (c.body.remove i).count } := by
  dsimp only [CueRecord.without] at h
  split at h
  · cases h
  · exact ⟨‹_›, (Option.some.inj h).symm⟩

/-- A list whose entries are each dropped or kept with their image. -/
theorem map_filterMap_sublist {α β : Type} {f : α → Option α} {key : α → β} (h : ∀ x y, f x = some y → key y = key x)
    (l : List α) : ((l.filterMap f).map key).Sublist (l.map key) := by
  induction l with
  | nil => exact List.Sublist.refl _
  | cons x l ih =>
    rcases hx : f x with _ | y
    · rw [List.filterMap_cons_none hx]; exact ih.cons _
    · rw [List.filterMap_cons_some hx, List.map_cons, List.map_cons, h x y hx]; exact ih.cons_cons _

theorem queueWithout_key (par : ServiceParams) (id : CueId) (i : Nat) (c c' : CueRecord)
    (h : (if c.body.id = id then c.without par i else some c) = some c') : c'.key = c.key := by
  split at h
  · obtain ⟨-, rfl⟩ := CueRecord.without_eq h
    simp [CueRecord.key]
  · rw [Option.some.inj h]

theorem queueWithout_lawful {par : ServiceParams} {q : List CueRecord} {id : CueId} {i : Nat}
    (h : ∀ c ∈ q, c.body.lawful) : ∀ c ∈ queueWithout par q id i, c.body.lawful := by
  intro c' hc'
  obtain ⟨c, hc, e⟩ := List.mem_filterMap.mp hc'
  split at e
  · obtain ⟨some, rfl⟩ := CueRecord.without_eq e
    exact (h c hc).remove some
  · exact Option.some.inj e ▸ h c hc

theorem shortened_queue_step {k : Service} (cue : CueId) (i : Nat) :
    ServiceStep a t k (t.service k)
      { t.service k with queue := queueWithout (t.service k).par (t.service k).queue cue i } where
  texts := fun ⟨open_, queue⟩ => ⟨open_, queueWithout_lawful queue⟩
  stores := fun _ h => { h with
    cues := fun run => (List.length_filterMap_le _ _).trans (h.cues run)
    config := fun config => ⟨by simp [queueWithout, (h.config config).1], (h.config config).2⟩ }
  queue := ⟨_, [], (List.append_nil _).symm, map_filterMap_sublist (queueWithout_key _ cue i) _, by simp⟩

theorem shortened_open_step {k : Service} {o : OpenCue} (opened : (t.service k).openCue = some o) (i : Nat) :
    ServiceStep a t k (t.service k) { t.service k with openCue := o.without i } where
  texts := fun ⟨open_, queue⟩ => ⟨fun o' ho' => by
    obtain ⟨some, rfl⟩ := OpenCue.without_eq ho'
    exact (open_ o opened).remove some, queue⟩
  stores := fun _ h => { h with
    opened := fun run _ => h.opened run (by simp [opened])
    config := fun config => by cases opened.symm.trans (h.config config).2 }

theorem removeWord_step (t : State) (k : Service) (id : CueId) (i : Nat) :
    ServiceStep a t k (t.service k) ((t.service k).removeWord id i) := by
  unfold ServiceState.removeWord
  split
  next o opened =>
    split
    · exact shortened_open_step opened i
    · exact shortened_queue_step id i
  next => exact shortened_queue_step id i

theorem Changes.removePlaced (h : Changes a s t) (pl : Placement) : Changes a s (t.removePlaced pl) := by
  unfold State.removePlaced
  split
  · exact h
  · exact (h.setService (removeWord_step t _ _ _)).renumberCue _ _ _ _

theorem Changes.withdraw (h : Changes a s t) (e : HistoryEntry) : Changes a s (t.withdraw e) :=
  h.foldl fun _ hu pl _ => Changes.ite (fun _ => hu.removePlaced pl) fun _ => hu

theorem Changes.dropNewest (h : Changes a s t) (p : Port) :
    Changes a s (t.setPort p { t.port p with history := (t.port p).history.dropLast }) :=
  h.setPort { history := fun short => by simp only [List.length_dropLast]; omega }

theorem Changes.retractLoop (h : Changes a s t) (p : Port) (k r : Nat) :
    Changes a s (State.retractLoop p k r t).state := by
  induction k generalizing r t with
  | zero => exact h
  | succ k ih =>
    unfold State.retractLoop
    split
    · exact h
    · split
      · exact h
      · exact ih ((h.dropNewest p).withdraw _) (r + 1)

theorem Changes.retractWords (h : Changes a s t) (p : Port) (k : Nat) : Changes a s (t.retractWords p k) :=
  ((h.retractLoop p k 0).sendPort p _).raiseTimes _ _

/-! ### Words placed -/

/-- The service has a live route. -/
def State.isRouted (s : State) (k : Service) : Prop := (s.service k).liveRoute.isSome = true

theorem Changes.isRouted {l : Service} (h : Changes Allow.inner s t) (routed : s.isRouted l) : t.isRouted l := by
  rw [State.isRouted, (h.routes Allow.inner_fixed l).1]; exact routed

theorem put_step {t : State} {k : Service} {b : CueBody} {w : PlacedWord} (run : t.mode = .run) (routed : t.isRouted k)
    (standing : (t.service k).texted → b.standing) (fits : b.fit w.text.length ≠ .overflow) (now idle : Smc) :
    ServiceStep a t k (t.service k)
      { t.service k with openCue := some ⟨b.put (b.fit w.text.length) (w.cutTo b.width), now, idle⟩ } where
  texts := fun law => ⟨fun o ho => by
    obtain ⟨put, some⟩ := CueBody.put_standing (standing law) w fits
    exact Option.some.inj ho ▸ ⟨some, put⟩, law.2⟩
  stores := fun _ h => { h with
    opened := fun run _ => h.routed run routed
    config := fun config => by cases run.symm.trans config }

theorem Changes.putWord (h : Changes a s t) (run : t.mode = .run) {k : Service} (routed : t.isRouted k) {b : CueBody}
    (standing : (t.service k).texted → b.standing) {x : AdmittedWord} (fits : b.fit x.word.text.length ≠ .overflow) :
    Changes a s (t.putWord k b x).1 := by
  unfold State.putWord
  have put := h.setService (put_step run routed standing fits t.now (plus t.now (t.service k).par.idleClose))
  exact Changes.ite (fun _ => put.closeCue k) fun _ => put

theorem Changes.openBody (h : Changes a s t) (k : Service) (b : Bool) : Changes a s (t.openBody k b).1 :=
  h.setService {}

theorem ServiceState.newBody_standing (v : ServiceState) (b : Bool) : (v.newBody b).standing :=
  CueBody.standing_of_empty rfl rfl

theorem Changes.openOrNew (h : Changes a s t) (k : Service) (b : Bool) : Changes a s (t.openOrNew k b).1 := by
  unfold State.openOrNew
  split
  · exact h
  · exact h.openBody k b

theorem State.openOrNew_standing (s : State) (k : Service) (b : Bool) (law : ((s.openOrNew k b).1.service k).texted) :
    (s.openOrNew k b).2.standing := by
  unfold State.openOrNew at law ⊢
  split
  next o opened =>
    rw [opened] at law
    exact (law.1 o opened).2
  next => exact ServiceState.newBody_standing _ b

/-- The state in which step 2 of R59 looks for an open cue: a speaker change has closed it. -/
def State.turn (s : State) (k : Service) (x : AdmittedWord) : State := if x.speakerChange then s.closeCue k else s

theorem Changes.turn (h : Changes a s t) (k : Service) (x : AdmittedWord) : Changes a s (t.turn k x) :=
  Changes.ite (fun _ => h.closeCue k) fun _ => h

theorem State.placeIn_eq (s : State) (k : Service) (x : AdmittedWord) :
    s.placeIn k x =
      if ((s.turn k x).openOrNew k x.speakerChange).2.fit x.word.text.length = .overflow then
        State.putWord ((((s.turn k x).openOrNew k x.speakerChange).1.closeCue k).openBody k false).1 k
          ((((s.turn k x).openOrNew k x.speakerChange).1.closeCue k).openBody k false).2 x
      else
        State.putWord ((s.turn k x).openOrNew k x.speakerChange).1 k ((s.turn k x).openOrNew k x.speakerChange).2 x := rfl

theorem Changes.placeIn (h : Changes a s t) (run : t.mode = .run) {k : Service} (routed : t.isRouted k)
    (x : AdmittedWord) : Changes a s (t.placeIn k x).1 := by
  rw [State.placeIn_eq, apply_ite Prod.fst]
  have readied {c : Allow} {r : State} (h : Changes c r t) : Changes c r ((t.turn k x).openOrNew k x.speakerChange).1 :=
    (h.turn k x).openOrNew k _
  have reopened {c : Allow} {r : State} (h : Changes c r t) :
      Changes c r ((((t.turn k x).openOrNew k x.speakerChange).1.closeCue k).openBody k false).1 :=
    ((readied h).closeCue k).openBody k false
  refine Changes.ite (fun _ => ?_) fun fits => ?_
  · refine (reopened h).putWord ((reopened (c := .inner) .refl).mode.trans run) ((reopened .refl).isRouted routed)
      (fun _ => ServiceState.newBody_standing _ false) ?_
    rw [CueBody.fit_of_empty _ rfl]
    exact fun no => by cases no
  · exact (readied h).putWord ((readied (c := .inner) .refl).mode.trans run) ((readied .refl).isRouted routed)
      ((t.turn k x).openOrNew_standing k x.speakerChange) fits

theorem Changes.placeAll (h : Changes a s t) (run : t.mode = .run) (x : AdmittedWord) {ks : List Service}
    (routed : ∀ k ∈ ks, t.isRouted k) : Changes a s (State.placeAll x ks t).1 := by
  induction ks generalizing t with
  | nil => exact h
  | cons k ks ih =>
    have first := routed k (by simp)
    have placed : Changes Allow.inner t (t.placeIn k x).1 := Changes.placeIn .refl run first x
    exact ih (h.placeIn run first x) (placed.mode.trans run) fun l hl => placed.isRouted (routed l (by simp [hl]))

theorem Changes.assemble (h : Changes a s t) (run : t.mode = .run) (p : Port) (x : AdmittedWord) {ks : List Service}
    (routed : ∀ k ∈ ks, t.isRouted k) : Changes a s (t.assemble p x ks) := by
  unfold State.assemble
  split
  · exact h
  · exact (h.placeAll run x routed).joinHistory p _

theorem State.mem_routed {s : State} {g : Group} {k : Service} : k ∈ s.routed g ↔ (s.service k).liveRoute = some g := by
  simp [State.routed, mem_allServices]

theorem Changes.admitEvent (h : Changes a s t) (p : Port) (e : Smc) (k : Service) :
    Changes a s (State.admitEvent p e t k) := Changes.ite (fun _ => h.raise _) fun _ => h.raise _

theorem Changes.fanOut (h : Changes a s t) (run : t.mode = .run) (p : Port) (g : Group) (x : AdmittedWord) :
    Changes a s (t.fanOut p g x) := by
  unfold State.fanOut
  split
  · exact h.raise _
  · have told {c : Allow} {r : State} (h : Changes c r t) :
        Changes c r ((t.routed g).foldl (State.admitEvent p x.word.speech) t) :=
      h.foldl fun _ hu k _ => hu.admitEvent p _ k
    have quiet : Changes Allow.inner t _ := told .refl
    refine (told h).assemble (quiet.mode.trans run) p x fun k hk => quiet.isRouted ?_
    rw [State.isRouted, State.mem_routed.mp (List.mem_filter.mp hk).1]
    rfl

/-! ### The relay controller -/

theorem Changes.staleEvent (h : Changes a s t) (p : Port) (w : WordRecord) : Changes a s (t.staleEvent p w) :=
  h.raiseIf _ _

@[simp] theorem State.staleEvent_mode (s : State) (p : Port) (w : WordRecord) : (s.staleEvent p w).mode = s.mode :=
  staleEvent_frame s p w .mode (by simp)

theorem Changes.completeHandover (h : Changes a s t) (links : a.links) (g : Group) (b : Bool) :
    Changes a s (t.completeHandover g b) := by
  unfold State.completeHandover
  split
  · have aired {x : GroupState} {p : Port} : Changes a s ((t.setGroup g x).enterLink p .onAir) :=
      (h.setGroup ⟨Or.inl links⟩).enterLink links p _
    exact (Changes.clearHistory (Changes.ite (fun _ => aired) fun _ => aired.enterLink links _ _) _).raise _
  · exact h

theorem Changes.abortHandover (h : Changes a s t) (links : a.links) (g : Group) :
    Changes a s (t.abortHandover g) := by
  unfold State.abortHandover
  split
  · exact h
  · exact (h.setGroup ⟨Or.inl links⟩).enterLink links _ _

theorem Changes.grantIdle (h : Changes a s t) (links : a.links) (p : Port) (g : Group) :
    Changes a s (t.grantIdle p g) :=
  ((h.setGroup ⟨Or.inl links⟩).sendPort p _).enterLink links _ _

theorem Changes.beginHandover (h : Changes a s t) (links : a.links) (p q : Port) (g : Group) :
    Changes a s (t.beginHandover p q g) :=
  (((h.setGroup ⟨Or.inl links⟩).sendPort p _).enterLink links _ _).enterLink links _ _

theorem Changes.decideTake (h : Changes a s t) (links : a.links) (p : Port) : Changes a s (t.decideTake p) := by
  unfold State.decideTake
  split
  · split
    · exact h.grantIdle links _ _
    · exact h.beginHandover links _ _ _
  · exact h.sendPort p _

theorem Changes.decideRelease (h : Changes a s t) (links : a.links) (p : Port) : Changes a s (t.decideRelease p) := by
  unfold State.decideRelease
  split
  · exact (((h.setGroup ⟨Or.inl links⟩).closeRouted _).sendPort p _).enterLink links _ _
  · exact (h.sendPort p _).completeHandover links _ _
  · exact h.sendPort p _

theorem Changes.loseOnAir (h : Changes a s t) (links : a.links) (g : Group) (heard : Option Smc) :
    Changes a s (t.loseOnAir g heard) := by
  unfold State.loseOnAir
  split
  · exact (((h.setGroup ⟨Or.inl links⟩).sendPort _ _).enterLink links _ _).raise _
  · exact (h.setGroup ⟨Or.inl links⟩).closeRouted g

theorem Changes.relayLoss (h : Changes a s t) (links : a.links) (p : Port) : Changes a s (t.relayLoss p) := by
  unfold State.relayLoss
  split
  · exact h.abortHandover links _
  · exact h.completeHandover links _ _
  · exact h.loseOnAir links _ _
  · exact h

theorem Changes.acceptWord (h : Changes a s t) (run : t.mode = .run) (p : Port) (g : Group) (w : WordRecord) (e : Smc) :
    Changes a s (t.acceptWord p g w e) := h.fanOut run p g _

theorem Changes.judgeWord (h : Changes a s t) (links : a.links) (run : t.mode = .run) (p : Port) (w : WordRecord) :
    Changes a s (t.judgeWord p w) := by
  have told := h.staleEvent p w
  have run' : (t.staleEvent p w).mode = .run := by simpa using run
  unfold State.judgeWord
  split
  · exact Changes.ite (fun _ => told.raise _) fun _ => told.acceptWord run' _ _ _ _
  · exact Changes.ite (fun _ => told.acceptWord run' _ _ _ _) fun _ => (told.raise _).completeHandover links _ _
  · exact h.raise _

theorem Changes.expireYield (h : Changes a s t) (links : a.links) (g : Group) : Changes a s (t.expireYield g) :=
  Changes.ite (fun _ => h.completeHandover links g false) fun _ => h

theorem Changes.ageCut (h : Changes a s t) (g : Group) : Changes a s (t.ageCut g) := by
  unfold State.ageCut
  split
  · exact h
  · exact Changes.ite (fun _ => h.setGroup {}) fun _ => h

/-! ### The contributor links -/

theorem Changes.frameFails (h : Changes a s t) (p : Port) : Changes a s (t.frameFails p) :=
  Changes.ite (fun _ => h) fun _ => h.raise _

theorem Changes.refreshLink (h : Changes a s t) (links : a.links) (p : Port) : Changes a s (t.refreshLink p) :=
  Changes.ite (fun _ => Changes.enterLink (h.setPort {}) links _ _) fun _ => h.setPort {}

@[simp] theorem State.refreshLink_mode (s : State) (p : Port) : (s.refreshLink p).mode = s.mode :=
  refreshLink_frame s p .mode (by simp)

theorem State.run_of_receives {s : State} {p : Port} (h : s.receives p = true) : s.mode = .run := by
  simp only [State.receives, State.running, Bool.and_eq_true, beq_iff_eq] at h
  exact h.1

theorem Changes.receive (h : Changes a s t) (links : a.links) (p : Port) (type : ContributorType)
    {act : State → Option State}
    (acts : ∀ u v, Changes a s u → u.mode = .run → act u = some v → Changes a s v) :
    Changes a s (t.receive p type act) := by
  refine Changes.ite (fun receives => ?_) fun _ => h
  have heard := h.refreshLink links p
  refine Changes.ite (fun _ => ?_) fun _ => heard.raise _
  rcases acted : act (t.refreshLink p) with _ | v
  · exact heard.raise _
  · exact acts _ v heard (by simpa using State.run_of_receives receives) acted

theorem Changes.receiveBytes (h : Changes a s t) (links : a.links) (p : Port) (type : ContributorType)
    (payload : List Byte) {act : State → Option State}
    (acts : ∀ u v, Changes a s u → u.mode = .run → act u = some v → Changes a s v) :
    Changes a s (t.receiveBytes p type payload act) :=
  Changes.ite (fun _ => h.frameFails p) fun _ => h.receive links p type acts

theorem Changes.lineFailure (h : Changes a s t) (links : a.links) (p : Port) (v : FrameVerdict) :
    Changes a s (State.lineFailure p t v) := by
  cases v with
  | taken => exact h
  | fails => exact h.frameFails p
  | notTaken => exact Changes.ite (fun _ => (h.refreshLink links p).raise _) fun _ => h

theorem Changes.contributorFailure (h : Changes a s t) (links : a.links) (p : Port) (raw : List Byte) :
    Changes a s (t.contributorFailure p raw) := h.foldl fun _ hu v _ => hu.lineFailure links p v

theorem Changes.loseLink (h : Changes a s t) (links : a.links) (p : Port) : Changes a s (t.loseLink p) := by
  refine ((((h.relayLoss links p).setPort ?_).sendPort p _).raise _).setAlert _ _
  exact { window := fun _ => Nat.zero_le _, history := fun _ => Nat.zero_le _, links := Or.inl links }

theorem Changes.expireSilence (h : Changes a s t) (links : a.links) (p : Port) : Changes a s (t.expireSilence p) :=
  Changes.ite (fun _ => h.loseLink links p) fun _ => h

theorem Changes.sendHold (h : Changes a s t) (p : Port) : Changes a s (t.sendHold p) :=
  (Changes.sendPort (h.setPort {}) p _).raise _

theorem Changes.sendResume (h : Changes a s t) (p : Port) : Changes a s (t.sendResume p) :=
  Changes.sendPort (h.setPort {}) p _

theorem Changes.afterPush (h : Changes a s t) (p : Port) : Changes a s (t.afterPush p) :=
  Changes.ite (fun _ => h.sendHold p) fun _ => h

theorem Changes.afterRemoval (h : Changes a s t) (p : Port) : Changes a s (t.afterRemoval p) :=
  Changes.ite (fun _ => h.sendResume p) fun _ => h

theorem Changes.push (h : Changes a s t) (run : t.mode = .run) (p : Port) (r : IntakeRecord) :
    Changes a s (t.push p r) := by
  refine Changes.ite (fun room => (h.setPort ?_).afterPush p) fun _ => (h.setAlert _ _).raiseIf _ _
  exact { intake := Or.inr ⟨run, by simpa using room⟩ }

theorem Changes.removeHead (h : Changes a s t) (p : Port) : Changes a s (t.removeHead p) :=
  (h.setPort { intake := Or.inl (by simp) }).afterRemoval p

@[simp] theorem State.removeHead_mode (s : State) (p : Port) : (s.removeHead p).mode = s.mode :=
  removeHead_frame s p .mode (by simp)

theorem Changes.expireRefresh (h : Changes a s t) (p : Port) : Changes a s (t.expireRefresh p) :=
  Changes.ite (fun _ => h.sendHold p) fun _ => h

theorem Changes.pushWord (h : Changes a s t) (run : t.mode = .run) (p : Port) (tick : BitVec 32) (e c : Bool)
    (text : Text) : Changes a s (t.pushWord p tick e c text) :=
  (h.raiseIf _ _).push (by simpa using run) p _

theorem Changes.addSample (h : Changes a s t) (links : a.links) (p : Port) (x : Int) :
    Changes a s (t.addSample p x) := by
  have joined := h.setPort (p := p) (x := { t.port p with window := joinWindow (t.port p).window x })
    { window := fun _ => keepNewest_length_le 16 _, links := Or.inl links }
  exact Changes.ite (fun _ => joined.enterLink links p _) fun _ => joined

theorem Changes.takeInWord (p : Port) (payload : List Byte) (u v : State) (h : Changes a s u) (run : u.mode = .run)
    (acted : State.takeInWord p payload u = some v) : Changes a s v := by
  obtain ⟨⟨tick, e, c, raw⟩, -, rfl⟩ := Option.map_eq_some_iff.mp acted
  dsimp only
  split
  · exact h.raise _
  · exact h.pushWord run p tick e c _

theorem Changes.takeInStamp (links : a.links) (p : Port) (payload : List Byte) (u v : State) (h : Changes a s u)
    (_run : u.mode = .run) (acted : State.takeInStamp p payload u = some v) : Changes a s v := by
  obtain ⟨tick, -, rfl⟩ := Option.map_eq_some_iff.mp acted
  exact h.addSample links p _

theorem Changes.takeInRetract (p : Port) (count : Nat) (u v : State) (h : Changes a s u) (run : u.mode = .run)
    (acted : State.takeInRetract p count u = some v) : Changes a s v := by
  obtain ⟨-, e⟩ := Option.ite_none_left_eq_some.mp acted
  exact Option.some.inj e ▸ h.push run p _

theorem Changes.takeInOpen (p : Port) (id : PackageId) (count : Nat) (u v : State) (h : Changes a s u)
    (run : u.mode = .run) (acted : State.takeInOpen p id count u = some v) : Changes a s v := by
  obtain ⟨-, e⟩ := Option.ite_none_left_eq_some.mp acted
  exact Option.some.inj e ▸ h.push run p _

theorem Changes.takeInCue (p : Port) (c : PkgCueFields) (u v : State) (h : Changes a s u) (run : u.mode = .run)
    (acted : State.takeInCue p c u = some v) : Changes a s v := by
  obtain ⟨r, -, rfl⟩ := Option.map_eq_some_iff.mp acted
  exact h.push run p _

theorem Changes.takeInClose (p : Port) (id : PackageId) (u v : State) (h : Changes a s u) (run : u.mode = .run)
    (acted : State.takeInClose p id u = some v) : Changes a s v := by
  obtain ⟨-, e⟩ := Option.ite_none_left_eq_some.mp acted
  exact Option.some.inj e ▸ h.push run p _

theorem Changes.takeInDrop (p : Port) (id : PackageId) (u v : State) (h : Changes a s u) (run : u.mode = .run)
    (acted : State.takeInDrop p id u = some v) : Changes a s v := by
  obtain ⟨-, e⟩ := Option.ite_none_left_eq_some.mp acted
  exact Option.some.inj e ▸ h.push run p _

theorem State.run_of_nextRecord {s : State} {p : Port} {r : IntakeRecord} (h : s.nextRecord p = some r) :
    s.mode = .run := by
  unfold State.nextRecord at h
  split at h
  next c =>
    simp only [State.running, Bool.and_eq_true, beq_iff_eq] at c
    exact c.1
  next => cases h

theorem Changes.takeWord (h : Changes a s t) (links : a.links) (p : Port) : Changes a s (t.takeWord p) := by
  unfold State.takeWord
  split
  next w next_ =>
    exact (h.removeHead p).judgeWord links (by simpa using State.run_of_nextRecord next_) p w
  next => exact h

theorem Changes.takeRetract (h : Changes a s t) (p : Port) : Changes a s (t.takeRetract p) := by
  unfold State.takeRetract
  split
  · exact (h.removeHead p).retractWords p _
  · exact h

end Sys2Proof.Machine
end

section
set_option Elab.async false
/-! SUPPORT. The package table under its three updates, and which elementary changes the package store is made of. -/

namespace Sys2Proof.Machine

/-! ### The records of the table after an update -/

theorem replacePackage_records (t : List (Option PackageRecord)) (i : PackageId) (r : Option PackageRecord) :
    (replacePackage t i r).filterMap id = (t.filterMap id).filterMap fun x => if x.id = i then r else some x := by
  induction t with
  | nil => rfl
  | cons o t ih =>
    rw [replacePackage] at ih
    rcases o with _ | x
    · simpa [replacePackage] using ih
    · by_cases h : x.id = i
      · cases r <;> simpa [replacePackage, h] using ih
      · simpa [replacePackage, h] using ih

@[simp] theorem replacePackage_length (t : List (Option PackageRecord)) (i : PackageId) (r : Option PackageRecord) :
    (replacePackage t i r).length = t.length := by simp [replacePackage]

/-- The records with the one of an id replaced. -/
def replaceRecord (i : PackageId) (r : PackageRecord) (l : List PackageRecord) : List PackageRecord :=
  l.map fun x => if x.id = i then r else x

theorem replacePackage_some_records (t : List (Option PackageRecord)) (i : PackageId) (r : PackageRecord) :
    (replacePackage t i (some r)).filterMap id = replaceRecord i r (t.filterMap id) := by
  rw [replacePackage_records, replaceRecord, ← List.filterMap_eq_map]
  congr 1
  funext x
  exact (apply_ite some _ r x).symm

theorem replacePackage_none_records (t : List (Option PackageRecord)) (i : PackageId) :
    ((replacePackage t i none).filterMap id).Sublist (t.filterMap id) := by
  rw [replacePackage_records]
  have sub := map_filterMap_sublist (f := fun x : PackageRecord => if x.id = i then none else some x) (key := id)
    (fun x y h => by
      split at h
      · cases h
      · exact (Option.some.inj h).symm) (t.filterMap id)
  simpa using sub

theorem replaceRecord_ids {i : PackageId} {r : PackageRecord} (h : r.id = i) (l : List PackageRecord) :
    (replaceRecord i r l).map PackageRecord.id = l.map PackageRecord.id := by
  rw [replaceRecord, List.map_map]
  refine List.map_congr_left fun x _ => ?_
  by_cases e : x.id = i <;> simp [e, h]

theorem replaceRecord_of_absent {i : PackageId} {r : PackageRecord} {l : List PackageRecord}
    (h : i ∉ l.map PackageRecord.id) : replaceRecord i r l = l := by
  have keep : ∀ x ∈ l, (if x.id = i then r else x) = x := fun x hx =>
    if_neg fun e : x.id = i => h (e ▸ List.mem_map_of_mem hx)
  exact (List.map_congr_left keep).trans (List.map_id' l)

/-- Replacing the record that an id finds exchanges its cues for the new ones. -/
theorem replaceRecord_use {i : PackageId} {r x : PackageRecord} {l : List PackageRecord}
    (nodup : (l.map PackageRecord.id).Nodup) (found : l.find? (fun y => y.id == i) = some x) :
    ((replaceRecord i r l).map fun y => y.cues.length).sum + x.cues.length =
      (l.map fun y => y.cues.length).sum + r.cues.length := by
  induction l with
  | nil => cases found
  | cons y l ih =>
    obtain ⟨fresh, rest⟩ := List.nodup_cons.mp nodup
    by_cases e : y.id = i
    · obtain rfl : y = x := by simpa [List.find?_cons, e] using found
      have same := replaceRecord_of_absent (r := r) (e ▸ fresh)
      rw [replaceRecord] at same
      simp [replaceRecord, e, same]
      omega
    · have := ih rest (by simpa [List.find?_cons, e] using found)
      simp only [replaceRecord, List.map_cons, List.sum_cons, e, if_false] at this ⊢
      omega

theorem tableIds_replace_some {i : PackageId} {r : PackageRecord} (h : r.id = i) (t : List (Option PackageRecord)) :
    tableIds (replacePackage t i (some r)) = tableIds t := by
  rw [tableIds, replacePackage_some_records, replaceRecord_ids h, tableIds]

theorem poolUse_replace_some {t : List (Option PackageRecord)} {i : PackageId} {r x : PackageRecord}
    (nodup : (tableIds t).Nodup) (found : (t.filterMap id).find? (fun y => y.id == i) = some x) :
    poolUse (replacePackage t i (some r)) + x.cues.length = poolUse t + r.cues.length := by
  rw [poolUse, replacePackage_some_records, poolUse]
  exact replaceRecord_use nodup found

theorem poolUse_replace_none (t : List (Option PackageRecord)) (i : PackageId) :
    poolUse (replacePackage t i none) ≤ poolUse t :=
  ((replacePackage_none_records t i).map _).sum_le_sum fun _ _ => Nat.zero_le _

theorem insertPackage_eq {r : PackageRecord} {t u : List (Option PackageRecord)} (h : insertPackage r t = some u) :
    u.length = t.length ∧ ∃ l m, t.filterMap id = l ++ m ∧ u.filterMap id = l ++ r :: m := by
  induction t generalizing u with
  | nil => cases h
  | cons o t ih =>
    rcases o with _ | x
    · obtain rfl : some r :: t = u := Option.some.inj h
      exact ⟨rfl, [], t.filterMap id, by simp, by simp⟩
    · obtain ⟨v, hv, rfl⟩ := Option.map_eq_some_iff.mp h
      obtain ⟨length, l, m, old, new⟩ := ih hv
      exact ⟨congrArg (· + 1) length, x :: l, m, congrArg (x :: ·) old, congrArg (x :: ·) new⟩

/-! ### The operations of the store -/

variable {a : Allow} {s t : State}

theorem Changes.setPackages {l : List (Option PackageRecord)} (h : Changes a s t) (step : PackagesStep t l) :
    Changes a s (t.setPackages l) := h.tail (.packages t l step)

theorem Changes.answerPackage (h : Changes a s t) (p : Port) (id : PackageId) (r : PackageResult) :
    Changes a s (t.answerPackage p id r) := h.sendPort p _

theorem Changes.setLoad (h : Changes a s t) (p : Port) (c : LoadContext) : Changes a s (t.setLoad p c) := h.setPort {}

theorem Changes.freePackage (h : Changes a s t) (id : PackageId) : Changes a s (t.freePackage id) :=
  h.setPackages {
    slots := replacePackage_length _ _ _
    ids := fun nodup => nodup.sublist ((replacePackage_none_records _ _).map _)
    pool := fun _ => Or.inl (poolUse_replace_none _ _) }

/-- The record of an id replaced by one of the same id with `n` cues more than it had, for which there is room. -/
theorem Changes.replaceRecord (h : Changes a s t) {i : PackageId} {x r : PackageRecord} (found : t.findPackage i = some x)
    (same : r.id = i)
    (room : r.cues.length ≤ x.cues.length ∨
      (t.mode = .run ∧ r.cues.length ≤ x.cues.length + 1 ∧ poolUse t.packages < t.poolCapacity)) :
    Changes a s (t.setPackages (replacePackage t.packages i (some r))) :=
  h.setPackages {
    slots := replacePackage_length _ _ _
    ids := fun nodup => by rwa [tableIds_replace_some same]
    pool := fun nodup => by
      have use := poolUse_replace_some (r := r) nodup found
      rcases room with less | ⟨run, one, room⟩
      · exact Or.inl (by omega)
      · exact Or.inr ⟨run, by omega⟩ }

theorem State.findPackage_id {s : State} {i : PackageId} {x : PackageRecord} (h : s.findPackage i = some x) :
    x.id = i := by
  have := List.find?_some h
  simpa using this

theorem State.not_mem_ids_of_findPackage {s : State} {i : PackageId} (h : s.findPackage i = none) :
    i ∉ tableIds s.packages := by
  intro mem
  obtain ⟨x, hx, e⟩ := List.mem_map.mp mem
  have := List.find?_eq_none.mp h x hx
  simp [e] at this

theorem Changes.insertRecord (h : Changes a s t) {r : PackageRecord} {u : List (Option PackageRecord)}
    (absent : t.findPackage r.id = none) (empty : r.cues = []) (inserted : insertPackage r t.packages = some u) :
    Changes a s (t.setPackages u) := by
  obtain ⟨length, l, m, old, new⟩ := insertPackage_eq inserted
  have fresh := State.not_mem_ids_of_findPackage absent
  refine h.setPackages { slots := length, ids := fun nodup => ?_, pool := fun _ => Or.inl ?_ }
  · rw [tableIds, old, List.map_append] at nodup fresh
    rw [tableIds, new, List.map_append, List.map_cons]
    exact List.nodup_middle.mpr (List.nodup_cons.mpr ⟨fresh, nodup⟩)
  · rw [poolUse, poolUse, old, new]
    simp [empty]

theorem Changes.failLoad (h : Changes a s t) (p : Port) (id : PackageId) (why : LoadFailure) (c : LoadContext) :
    Changes a s (t.failLoad p id why c) :=
  (((h.freePackage id).setLoad p c).setAlert _ _).answerPackage p id _

theorem Changes.endLoad (h : Changes a s t) (p : Port) : Changes a s (t.endLoad p) := by
  unfold State.endLoad
  split
  · exact h
  · exact h.failLoad p _ _ _
  · exact h.setLoad p _

theorem Changes.openPackage (h : Changes a s t) (p : Port) (id : PackageId) (count : Nat) :
    Changes a s (t.openPackage p id count) := by
  unfold State.openPackage
  split
  next r found =>
    split
    · exact ((h.setLoad p _).setAlert _ _).answerPackage p id _
    · exact (h.replaceRecord (r := openedRecord p id count) found rfl (Or.inl (Nat.zero_le _))).setLoad p _
  next absent =>
    split
    next u inserted => exact (h.insertRecord (r := openedRecord p id count) absent rfl inserted).setLoad p _
    next => exact ((h.setLoad p _).setAlert _ _).answerPackage p id _

theorem State.poolUse_lt_of_not_refused {s : State} {r : PackageRecord} {c : PreparedCue}
    (h : s.cueRefused r c = none) : poolUse s.packages < s.poolCapacity := by
  unfold State.cueRefused at h
  by_contra full
  simp only [Nat.not_lt.mp full, if_true] at h
  repeat' split at h
  all_goals cases h

theorem Changes.loadCue (h : Changes a s t) (run : t.mode = .run) (p : Port) (c : PreparedCue) :
    Changes a s (t.loadCue p c) := by
  unfold State.loadCue
  split
  · exact h.raise _
  · exact h
  · split
    · exact h
    next r found =>
      split
      · exact h.failLoad p _ _ _
      next taken =>
        have same : r.id = _ := State.findPackage_id found
        exact h.replaceRecord (r := { r with cues := r.cues ++ [c] }) found same
          (Or.inr ⟨run, by simp, State.poolUse_lt_of_not_refused taken⟩)

theorem Changes.closeLoad (h : Changes a s t) (p : Port) (id : PackageId) {r : PackageRecord}
    (found : t.findPackage id = some r) : Changes a s (t.closeLoad p id r) := by
  have same : r.id = id := State.findPackage_id found
  refine Changes.ite (fun _ => ((h.replaceRecord (r := { r with state := .ready, loadingPort := none }) found same
    (Or.inl (Nat.le_refl _))).setLoad p _).answerPackage p id _) fun _ => h.failLoad p _ _ _

theorem Changes.closePackage (h : Changes a s t) (p : Port) (id : PackageId) : Changes a s (t.closePackage p id) := by
  unfold State.closePackage
  split
  · split
    · split
      · exact h.answerPackage p id _
      next r found => exact h.closeLoad p id found
    · exact h.answerPackage p id _
  · exact Changes.ite (fun _ => h.setLoad p _) fun _ => h.answerPackage p id _
  · exact h.answerPackage p id _

theorem Changes.forget (h : Changes a s t) (p : Port) (id : PackageId) : Changes a s (t.forget p id) :=
  Changes.ite (fun _ => h.setLoad p _) fun _ => h

/-! ### The end of a play -/

theorem uncommitted_step {k : Service} : ServiceStep a t k (t.service k) { t.service k with committed := none } where
  bands := fun h => { h with committed := fun _ no => by cases no }

theorem Changes.cutCommitted (h : Changes a s t) (k : Service) : Changes a s (t.cutCommitted k) := by
  unfold State.cutCommitted
  split
  · exact h
  · exact (h.setService uncommitted_step).raise _

theorem Changes.cutPrepared (h : Changes a s t) (k : Service) (id : PackageId) : Changes a s (t.cutPrepared k id) := by
  unfold State.cutPrepared
  split
  · exact h
  · exact Changes.ite (fun _ => h.cutCommitted k) fun _ => h

theorem Changes.endPlay (h : Changes a s t) (k : Service) : Changes a s (t.endPlay k) := by
  unfold State.endPlay
  split
  · exact h
  · exact Changes.cutPrepared (h.setService {}) k _

theorem Changes.endPlays (h : Changes a s t) (id : PackageId) : Changes a s (t.endPlays id) :=
  h.foldl fun _ hu k _ => Changes.ite (fun _ => hu.endPlay k) fun _ => hu

theorem Changes.dropPackage (h : Changes a s t) (p : Port) (id : PackageId) : Changes a s (t.dropPackage p id) := by
  unfold State.dropPackage
  split
  · exact (h.forget p id).answerPackage p id _
  · split
    · exact (((h.endPlays id).freePackage id).forget p id).answerPackage p id _
    · exact Changes.ite (fun _ => ((h.freePackage id).setLoad p _).answerPackage p id _) fun _ => h.answerPackage p id _

/-! ### The takes -/

theorem Changes.takeOpen (h : Changes a s t) (p : Port) : Changes a s (t.takeOpen p) := by
  unfold State.takeOpen
  split
  · exact ((h.removeHead p).endLoad p).openPackage p _ _
  · exact h

theorem Changes.takeCue (h : Changes a s t) (p : Port) : Changes a s (t.takeCue p) := by
  unfold State.takeCue
  split
  next next_ => exact (h.removeHead p).loadCue (by simpa using State.run_of_nextRecord next_) p _
  next => exact h

theorem Changes.takeClose (h : Changes a s t) (p : Port) : Changes a s (t.takeClose p) := by
  unfold State.takeClose
  split
  · exact (h.removeHead p).closePackage p _
  · exact h

theorem Changes.takeDrop (h : Changes a s t) (p : Port) : Changes a s (t.takeDrop p) := by
  unfold State.takeDrop
  split
  · exact (h.removeHead p).dropPackage p _
  · exact h

theorem Changes.takeHead (h : Changes a s t) (links : a.links) (p : Port) : Changes a s (t.takeHead p) := by
  unfold State.takeHead
  split
  · exact h
  · exact h.takeWord links p
  · exact h.takeRetract p
  · exact h.takeOpen p
  · exact h.takeCue p
  · exact h.takeClose p
  · exact h.takeDrop p

end Sys2Proof.Machine
end

section
set_option Elab.async false
/-! SUPPORT. Which elementary changes the placement unit, the automation unit, the output scheduler and the things of a
boundary are made of. -/

namespace Sys2Proof.Machine

variable {a : Allow} {s t : State}

/-! ### Bands and requests -/

theorem ServiceState.place_onScreen {v : ServiceState} (base : 2 ≤ v.par.baseRow ∧ v.par.baseRow ≤ 15)
    (top : 1 ≤ v.par.topRow ∧ v.par.topRow ≤ 14) {n : Nat} (h : n = 1 ∨ n = 2) :
    (v.place n).1.onScreen ∧ (v.place n).1.height = n := by
  have bottom : (v.par.baseBand n).onScreen ∧ (v.par.baseBand n).height = n := by
    simp only [ServiceParams.baseBand, Band.onScreen, and_true]
    omega
  have upper : (v.par.topBand n).onScreen ∧ (v.par.topBand n).height = n := by
    simp only [ServiceParams.topBand, Band.onScreen, and_true]
    omega
  unfold ServiceState.place
  repeat' split
  all_goals assumption

theorem Band.onScreen.height {b : Band} (h : b.onScreen) : b.height = 1 ∨ b.height = 2 := h.2.2

theorem CommittedSource.height_le (x : CommittedSource) : x.height = 1 ∨ x.height = 2 := by
  unfold CommittedSource.height
  repeat' split
  · unfold CueBody.height
    split <;> simp
  · exact Or.inr rfl
  · exact Or.inl rfl

theorem requestClear_step {k : Service} : ServiceStep a t k (t.service k) (t.service k).requestClear := by
  unfold ServiceState.requestClear
  split
  · exact {}
  · exact { bands := fun h => { h with moving := fun _ no => (by cases no), moved := fun _ _ no => (by cases no) } }

theorem Changes.requestClear (h : Changes a s t) (k : Service) : Changes a s (t.requestClear k) :=
  h.setService requestClear_step

/-- The service after the cover check has placed its cue again, on the band `b`. -/
def ServiceState.recovered (v : ServiceState) (r : ShowRecord) (conflict : Bool) : ServiceState :=
  { v with display := .showing { r with conflict := conflict } }

theorem recovered_step {k : Service} {r : ShowRecord} (shows : (t.service k).display = .showing r) (c : Bool) :
    ServiceStep a t k (t.service k) ((t.service k).recovered r c) where
  bands := fun h => { h with
    shown := fun r' hr' => by cases hr'; exact h.shown r shows
    moved := fun b r' hb hr' => by cases hr'; exact h.moved b r hb shows }
  shown := fun r' hr' => by cases hr'; exact Or.inl ⟨r, shows, rfl⟩

theorem requestMove_step {k : Service} {v : ServiceState} {b : Band} (step : ServiceStep a t k (t.service k) v)
    (fits : (t.service k).banded → b.onScreen ∧ ∀ r, v.display = .showing r → b.height = r.band.height) :
    ServiceStep a t k (t.service k) (v.requestMove b) := by
  unfold ServiceState.requestMove
  split
  · exact step
  · exact step
  · exact { step with
      bands := fun h => { step.bands h with
        moving := fun b' hb' => by cases hb'; exact (fits h).1
        moved := fun b' r hb' hr => by cases hb'; exact (fits h).2 r hr }
      stores := fun o h => { step.stores o h with }
      texts := fun h => step.texts h }

theorem Changes.coverCheck (h : Changes a s t) (k : Service) : Changes a s (t.coverCheck k) := by
  unfold State.coverCheck
  dsimp only
  split
  · exact h
  next r shows =>
    refine Changes.ite (fun _ => (h.setService ?_).raiseIf _ _) fun _ => h
    have again := recovered_step (a := a) shows ((t.service k).place r.band.height).2
    split
    · exact again
    · refine requestMove_step again fun law => ?_
      obtain ⟨onScreen, height⟩ := ServiceState.place_onScreen law.baseRow law.topRow (law.shown r shows).height
      exact ⟨onScreen, fun r' hr' => by cases hr'; exact height⟩

theorem seen_step {k : Service} (m : Per4 (Option Strap)) :
    ServiceStep a t k (t.service k)
      { t.service k with rowMap := m, committed := (t.service k).committed.map Committed.seen } where
  bands := fun h => { h with
    committed := fun c hc => by
      obtain ⟨x, hx, rfl⟩ := Option.map_eq_some_iff.mp hc
      exact h.committed x hx }

theorem Changes.applyStrap (h : Changes a s t) (k : Service) (slot : Fin 4) (rows : Option Strap) :
    Changes a s (t.applyStrap k slot rows) := by
  cases rows with
  | none => exact h.setService {}
  | some x => exact (h.setService (seen_step _)).coverCheck k

/-! ### Switches -/

theorem kept_queue_step {k : Service} (keep : CueRecord → Bool) :
    ServiceStep a t k (t.service k) { t.service k with queue := (t.service k).queue.filter keep } where
  texts := fun ⟨open_, queue⟩ => ⟨open_, fun c hc => queue c (List.mem_filter.mp hc).1⟩
  stores := fun _ h => { h with
    cues := fun run => (List.length_filter_le _ _).trans (h.cues run)
    config := fun config => ⟨by simp [(h.config config).1], (h.config config).2⟩ }
  queue := QueueStep.of_sublist _ List.filter_sublist

theorem Changes.cutQueue (h : Changes a s t) (k : Service) (x : Smc) : Changes a s (t.cutQueue k x) :=
  Changes.foldl (h.setService (kept_queue_step _)) fun _ hu _ _ => (hu.markCue k _ _).raise _

theorem Changes.cutLiveCommitted (h : Changes a s t) (k : Service) (x : Smc) : Changes a s (t.cutLiveCommitted k x) := by
  unfold State.cutLiveCommitted
  split
  · exact h
  · exact Changes.ite (fun _ => h.cutCommitted k) fun _ => h

theorem Changes.clearPrepared (h : Changes a s t) (k : Service) : Changes a s (t.clearPrepared k) := by
  unfold State.clearPrepared
  split
  · exact h
  · exact Changes.ite (fun _ => h.requestClear k) fun _ => h

theorem Changes.setKind (h : Changes a s t) (k : Service) (x : SegKind) (l : LastSwitch) :
    Changes a s (t.setKind k x l) := h.setService {}

theorem Changes.setLiveStart (h : Changes a s t) (k : Service) (x : Smc) : Changes a s (t.setLiveStart k x) :=
  h.setService {}

theorem Changes.switchLive (h : Changes a s t) (k : Service) (x : Smc) : Changes a s (t.switchLive k x) :=
  (((h.endPlay k).clearPrepared k).setKind k _ _).setLiveStart k x

theorem Changes.switchBreak (h : Changes a s t) (k : Service) (x : Smc) : Changes a s (t.switchBreak k x) :=
  ((((h.endPlay k).setKind k _ _).cutQueue k x).cutLiveCommitted k x).requestClear k

theorem Changes.switchPackage (h : Changes a s t) (k : Service) (x : Smc) (package : PackageId) :
    Changes a s (t.switchPackage k x package) := by
  have played : Changes a s _ := Changes.setService (h.endPlay k) (k := k)
    (w := { (t.endPlay k).service k with pointer := some ⟨package, 1, x⟩ }) {}
  exact ((played.setKind k _ _).cutQueue k x).cutLiveCommitted k x

theorem fallBack_step {k : Service} (x : Smc) : ServiceStep a t k (t.service k) ((t.service k).fallBack x) := by
  unfold ServiceState.fallBack
  split
  · split
    · exact {}
    · exact {}
  · exact {}

theorem Changes.switchFallback (h : Changes a s t) (k : Service) (x e : Smc) :
    Changes a s (t.switchFallback k x e) :=
  ((((h.endPlay k).clearPrepared k).setKind k _ _).setLiveStart k x).setService (fallBack_step e)

theorem Changes.applySwitch (h : Changes a s t) (k : Service) (e : SwitchEntry) :
    Changes a s (State.applySwitch k t e) := by
  unfold State.applySwitch
  split
  · exact h.switchLive k _
  · exact h.switchBreak k _
  · exact Changes.ite (fun _ => h.switchPackage k _ _) fun _ => h.switchFallback k _ _
  · exact h.applyStrap k _ _

@[simp] theorem insertSwitch_length (e : SwitchEntry) (l : List SwitchEntry) :
    (insertSwitch e l).length = l.length + 1 := by
  induction l with
  | nil => rfl
  | cons x l ih =>
    unfold insertSwitch
    split <;> simp [ih]

@[simp] theorem insertEvent_length (e : PendingEvent) (l : List PendingEvent) :
    (insertEvent e l).length = l.length + 1 := by
  induction l with
  | nil => rfl
  | cons x l ih =>
    unfold insertEvent
    split <;> simp [ih]

theorem Changes.joinSwitch (h : Changes a s t) (k : Service) (e : SwitchEntry) : Changes a s (t.joinSwitch k e) := by
  refine Changes.ite (fun room => h.setService { switches := fun _ => ?_ }) fun _ => ?_
  · have : (t.service k).switches.length < 4 := room
    simp only [insertSwitch_length]
    omega
  · split
    · exact h
    next x l all =>
      refine ((h.setService { switches := fun short => ?_ }).raise _).applySwitch k x
      have := congrArg List.length all
      simp only [insertSwitch_length, List.length_cons] at this
      simp only
      omega

theorem Changes.expireSwitches (h : Changes a s t) (k : Service) : Changes a s (t.expireSwitches k) := by
  refine Changes.foldl (h.setService { switches := fun short => ?_ }) fun _ hu e _ => hu.applySwitch k e
  exact (List.length_filter_le _ _).trans short

/-! ### Pending events -/

theorem Changes.setEvents {l : List PendingEvent} (h : Changes a s t) (step : EventsStep a t l) :
    Changes a s { t with events := l } := h.tail (.events t l step)

theorem delay_step {k : Service} (routes : a.routes) (d : Nat) :
    ServiceStep a t k (t.service k) { t.service k with par := { (t.service k).par with delay := d } } where
  bands := fun h => { h with baseRow := h.baseRow, topRow := h.topRow }
  routes := Or.inl routes

theorem Changes.applyEvent (h : Changes a s t) (routes : a.routes) {e : PendingEvent} (opens : a.opens e.service) :
    Changes a s (t.applyEvent e) := by
  unfold State.applyEvent
  dsimp only
  split
  · exact h.changeRoute routes _ _ fun _ _ => Or.inl opens
  · exact h.setService (delay_step routes _)
  · exact Changes.joinSwitch (h.setService {}) _ _
  · exact h.joinSwitch _ _

theorem Changes.expireEffects (h : Changes a s t) (routes : a.routes) (owned : t.Owned a) :
    Changes a s t.expireEffects := by
  refine Changes.foldl (h.setEvents ⟨?_, ?_, ?_⟩) fun _ hu e he => hu.applyEvent routes (owned e (List.mem_filter.mp he).1)
  · exact (List.length_filter_le _ _).trans
  · exact fun _ none => by simp [none]
  · exact fun e he => Or.inl ⟨e, (List.mem_filter.mp he).1, rfl⟩

theorem Changes.ageLiveStart (h : Changes a s t) (k : Service) : Changes a s (t.ageLiveStart k) := by
  unfold State.ageLiveStart
  split
  · exact h
  · exact Changes.ite (fun _ => h.setService {}) fun _ => h

theorem Changes.ageLastChange (h : Changes a s t) (k : Service) : Changes a s (t.ageLastChange k) := by
  unfold State.ageLastChange
  split
  · exact h
  · exact Changes.ite (fun _ => h.setService {}) fun _ => h

theorem mem_insertEvent {e x : PendingEvent} {l : List PendingEvent} (h : x ∈ insertEvent e l) : x = e ∨ x ∈ l := by
  induction l with
  | nil => exact Or.inl (List.mem_singleton.mp h)
  | cons y l ih =>
    unfold insertEvent at h
    split at h
    · exact List.mem_cons.mp h
    · rcases List.mem_cons.mp h with rfl | late
      · exact Or.inr (by simp)
      · exact (ih late).imp id (by simp +contextual)

theorem Changes.acceptEvent (h : Changes a s t) (run : t.mode = .run) (tag : BitVec 16) {f : EventFields}
    (opens : a.opens f.service) (e : Smc) (b : Bool) : Changes a s (t.acceptEvent tag f e b) := by
  refine Changes.ite (fun _ => h.sendAnswer run _) fun room =>
    (h.setEvents (l := insertEvent ⟨e, f.service, f.body, false⟩ t.events) ⟨fun _ => ?_, fun config => ?_, fun x hx => ?_⟩).sendAnswer
      run _
  · have : ¬ 32 ≤ t.events.length := room
    rw [insertEvent_length]
    omega
  · cases run.symm.trans config
  · rcases mem_insertEvent hx with rfl | old
    · exact Or.inr opens
    · exact Or.inl ⟨x, old, rfl⟩

theorem Changes.convertEvent (h : Changes a s t) (run : t.mode = .run) (tag : BitVec 16) {f : EventFields}
    (opens : a.opens f.service) : Changes a s (t.convertEvent tag f) := by
  unfold State.convertEvent
  split
  · exact h.sendAnswer run _
  · exact (h.raiseIf _ _).acceptEvent (by simpa using run) tag opens _ _
  · exact h.acceptEvent run tag opens _ _

theorem State.run_of_running {s : State} (h : s.running = true) : s.mode = .run := by simpa [State.running] using h

theorem Changes.takeEvent (h : Changes a s t) (enabled : ∀ k, (t.service k).par.enabled = true → a.opens k)
    (payload : List Byte) : Changes a s (t.takeEvent payload) := by
  refine Changes.ite (fun _ => h) fun taken => ?_
  have run : t.mode = .run := State.run_of_running (by simp at taken; exact taken.1)
  split
  · exact h.sendAnswer run _
  · exact Changes.ite (fun on => h.convertEvent run _ (enabled _ on)) fun _ => h.sendAnswer run _

/-! ### Commit and skip -/

theorem tail_step {k : Service} :
    ServiceStep a t k (t.service k) { t.service k with queue := (t.service k).queue.tail } where
  texts := fun ⟨open_, queue⟩ => ⟨open_, fun c hc => queue c (List.mem_of_mem_tail hc)⟩
  stores := fun _ h => { h with
    cues := fun run => by
      have := h.cues run
      simp only [List.length_tail]
      omega
    config := fun config => ⟨by simp [(h.config config).1], (h.config config).2⟩ }
  queue := QueueStep.of_sublist _ (List.tail_sublist _)

theorem Changes.skipDue (h : Changes a s t) (k : Service) (d : Due) : Changes a s (State.skipDue k t d) := by
  cases d with
  | live c => exact ((h.setService tail_step).markCue k _ _).raise _
  | prepared x => exact Changes.raise (h.setService {}) _

theorem Changes.supersede (h : Changes a s t) (k : Service) : Changes a s (t.supersede k) := by
  unfold State.supersede
  split
  · exact h
  · exact (h.setService uncommitted_step).raise _

theorem entered_step {k : Service} (x : CommittedSource) :
    ServiceStep a t k (t.service k)
      { t.service k with
        committed := some ⟨x, ((t.service k).place x.height).1, ((t.service k).place x.height).2, false⟩ } where
  bands := fun law => { law with
    committed := fun c hc => by
      cases hc
      exact ServiceState.place_onScreen law.baseRow law.topRow x.height_le }

theorem Changes.enterSlot (h : Changes a s t) (k : Service) (x : CommittedSource) : Changes a s (t.enterSlot k x) :=
  (h.setService (entered_step x)).raiseIf ((t.service k).place x.height).2 (serviceEvent .strapConflict k)

theorem Changes.commitDue (h : Changes a s t) (k : Service) (d : Due) : Changes a s (t.commitDue k d) := by
  cases d with
  | live c => exact ((h.setService tail_step).markCue k _ _).enterSlot k _
  | prepared x =>
    have advanced : Changes a s (t.setService k (t.service k).advance) := h.setService {}
    exact (advanced.raiseTimes (serviceEvent .wordTruncated k) (x.cuts (t.service k).par.rowWidth)).enterSlot k _

theorem Changes.commitStep (h : Changes a s t) (k : Service) : Changes a s (t.commitStep k) := by
  unfold State.commitStep
  dsimp only
  split
  · exact h
  · exact ((h.foldl fun _ hu d _ => hu.skipDue k d).supersede k).commitDue k _

theorem withoutDeadline_step {k : Service} :
    ServiceStep a t k (t.service k)
      { t.service k with display := (t.service k).display.withoutDeadline } := by
  rcases shows : (t.service k).display with _ | r
  · exact {
      bands := fun h => { h with shown := fun _ no => (by cases no), moved := fun _ _ _ no => (by cases no) }
      shown := fun _ no => by cases no }
  · exact {
      bands := fun h => { h with
        shown := fun r' hr' => by cases hr'; exact h.shown r shows
        moved := fun b r' hb hr' => by cases hr'; exact h.moved b r hb shows }
      shown := fun r' hr' => by cases hr'; exact Or.inl ⟨r, shows, rfl⟩ }

theorem Changes.expireClear (h : Changes a s t) (k : Service) : Changes a s (t.expireClear k) :=
  Changes.ite (fun _ => (h.setService withoutDeadline_step).requestClear k) fun _ => h

/-! ### Sending -/

theorem Changes.sendOutput (h : Changes a s t) (sends : a.sends) {k : Service} {m : OutputMsg}
    (display : DisplaySends (t.service k) k m) : Changes a s (t.sendOutput m) := h.tail (.output t k m sends display)

@[simp] theorem Committed.record_band (c : Committed) (now : Smc) (x : Nat) : (c.record now x).band = c.band := by
  unfold Committed.record
  split <;> rfl

@[simp] theorem Committed.record_shown (c : Committed) (now : Smc) (x : Nat) : (c.record now x).shown = now := by
  unfold Committed.record
  split <;> rfl

theorem Changes.accountLateness (h : Changes a s t) (k : Service) (c : Committed) :
    Changes a s (t.accountLateness k c) := by
  unfold State.accountLateness
  split
  · exact h
  · exact Changes.raise (h.setService {}) _

theorem shown_step {k : Service} {c : Committed} (sends : a.sends) (committed : (t.service k).committed = some c) :
    ServiceStep a t k (t.service k)
      { t.service k with
        committed := none
        display := .showing (c.record t.now (t.service k).par.maxHold)
        control := .none } where
  bands := fun h => { h with
    committed := fun _ no => by cases no
    shown := fun r hr => by cases hr; rw [Committed.record_band]; exact (h.committed c committed).1
    moving := fun _ no => by cases no
    moved := fun _ _ no => by cases no }
  shown := fun r hr => by cases hr; exact Or.inr ⟨sends, c.record_shown _ _⟩

theorem Changes.sendShow (h : Changes a s t) (sends : a.sends) {k : Service} {c : Committed}
    (committed : (t.service k).committed = some c) : Changes a s (t.sendShow k c) := by
  have sent := (h.sendOutput sends (.showCue committed)).setService (shown_step (k := k) sends committed)
  exact Changes.ite (fun _ => (Changes.accountLateness sent k c).coverCheck k) fun _ => Changes.accountLateness sent k c

theorem cleared_step {k : Service} :
    ServiceStep a t k (t.service k) { t.service k with display := .blank, control := .none } where
  bands := fun h => { h with
    shown := fun _ no => by cases no
    moving := fun _ no => by cases no
    moved := fun _ _ no => by cases no }
  shown := fun _ no => by cases no

theorem moved_step {k : Service} {b : Band} (move : (t.service k).control = .move b) {d : Display}
    (moved : d = match (t.service k).display with
      | .blank => Display.blank
      | .showing r => .showing { r with band := b }) :
    ServiceStep a t k (t.service k) { t.service k with display := d, control := .none } := by
  subst moved
  rcases shows : (t.service k).display with _ | r
  · exact cleared_step
  · exact {
      bands := fun h => { h with
        shown := fun r' hr' => by cases hr'; exact h.moving b move
        moving := fun _ no => (by cases no)
        moved := fun _ _ no => (by cases no) }
      shown := fun r' hr' => by cases hr'; exact Or.inl ⟨r, shows, rfl⟩ }

theorem Changes.sendControl (h : Changes a s t) (sends : a.sends) (k : Service) : Changes a s (t.sendControl k) := by
  unfold State.sendControl
  dsimp only
  split
  · exact h
  · exact Changes.setService (h.sendOutput sends (.clear (k := k))) cleared_step
  next b move =>
    exact (Changes.setService (h.sendOutput sends (.move move)) (moved_step (t := t.sendOutput (.move k b)) move rfl)).raise _

theorem Changes.setDeficit (h : Changes a s t) (k : Service) {d : Nat} (small : d ≤ 512) :
    Changes a s (t.setDeficit k d) := h.setService { deficit := fun _ => small }

variable {x : Sending}

theorem Changes.control (h : Changes a s x.state) (sends : a.sends) (k : Service) :
    Changes a s (x.control k).state := by
  unfold Sending.control
  dsimp only
  split
  · exact h.sendControl sends k
  · exact h

theorem Changes.strict (h : Changes a s x.state) (sends : a.sends) (k : Service) :
    Changes a s (x.strict k).state := by
  unfold Sending.strict
  split
  · exact h
  next c committed =>
    split
    · exact h.sendShow sends committed
    · exact h

theorem Changes.wrr (h : Changes a s x.state) (sends : a.sends) (k : Service) : Changes a s (x.wrr k).state := by
  unfold Sending.wrr
  dsimp only
  split
  · exact h.setDeficit k (by omega)
  next c committed =>
    have small : min deficitMax ((x.state.service k).deficit + 32 * (x.state.service k).par.weight) ≤ 512 :=
      Nat.min_le_left _ _
    split
    · have lowered := h.setDeficit k ((Nat.sub_le _ c.source.cost).trans small)
      have sent := lowered.sendShow sends (k := k) (c := c) (by simpa [State.setDeficit] using committed)
      exact sent.quiet (by intro f hf; cases f <;> first | rfl | (exfalso; simp at hf))
    · exact h.setDeficit k small

theorem Changes.foldlSending {α : Type} {f : Sending → α → Sending} {l : List α} (h : Changes a s x.state)
    (step : ∀ y : Sending, Changes a s y.state → ∀ z ∈ l, Changes a s (f y z).state) :
    Changes a s (l.foldl f x).state := by
  induction l generalizing x with
  | nil => exact h
  | cons z l ih => exact ih (step x h z (by simp)) fun y hy w hw => step y hy w (by simp [hw])

theorem Changes.controls (h : Changes a s x.state) (sends : a.sends) : Changes a s x.controls.state := by
  unfold Sending.controls
  split
  · exact Changes.foldlSending h fun y hy k _ => hy.control sends k
  · exact h

theorem Changes.captions (h : Changes a s x.state) (sends : a.sends) : Changes a s x.captions.state := by
  unfold Sending.captions
  split
  · exact h
  · exact Changes.foldlSending h fun y hy k _ => hy.strict sends k
  · exact Changes.foldlSending h fun y hy k _ => hy.wrr sends k

theorem Changes.checkStall (h : Changes a s t) : Changes a s t.checkStall :=
  Changes.ite (fun _ => h.setAlert _ _) fun _ => h

theorem Changes.setBusyCount (h : Changes a s t) (n : Nat) : Changes a s { t with busyCount := n } :=
  h.quiet (by intro f hf; cases f <;> first | rfl | (exfalso; simp at hf))

theorem Changes.account (h : Changes a s t) : Changes a s t.account := by
  unfold State.account
  split
  · exact Changes.setBusyCount (h.foldl fun _ hu k _ => hu.raiseIf _ _) 0
  · exact ((h.setBusyCount _).raise _).checkStall

theorem Changes.deadlineStep (h : Changes a s t) : Changes a s t.deadlineStep :=
  h.foldl fun _ hu k _ => hu.expireClear k

/-! ### The things of a boundary -/

theorem Changes.expireIdle (h : Changes a s t) (k : Service) : Changes a s (t.expireIdle k) := by
  unfold State.expireIdle
  split
  · exact h
  · exact Changes.ite (fun _ => h.closeCue k) fun _ => h

theorem Changes.runTask (h : Changes a s t) (links : a.links) (routes : a.routes) (owned : t.Owned a)
    (x : BoundaryTask) : Changes a s (t.runTask x) := by
  cases x with
  | refresh p => exact h.expireRefresh p
  | silence p => exact h.expireSilence links p
  | yieldEnd g => exact h.expireYield links g
  | cutAged g => exact h.ageCut g
  | idle k => exact h.expireIdle k
  | effects => exact h.expireEffects routes owned
  | switches k => exact h.expireSwitches k
  | liveStartAged k => exact h.ageLiveStart k
  | lastChangeAged k => exact h.ageLastChange k
  | take p => exact h.takeHead links p

theorem Changes.finishBoundary (h : Changes a s t) (links : a.links) (routes : a.routes) (owned : s.Owned a) :
    Changes a s t.finishBoundary :=
  h.foldl fun _ hu x _ => hu.runTask links routes (hu.owned owned) x

theorem Changes.runStep (h : Changes a s x.state) {y : BoundaryStep} (sends : (∃ z, y = .task z) ∨ a.sends)
    (links : a.links) (routes : a.routes) (owned : s.Owned a) : Changes a s (x.runStep y).state := by
  cases y with
  | task z => exact h.runTask links routes (h.owned owned) z
  | deadlines => exact h.deadlineStep
  | commit k => exact h.commitStep k
  | controls => exact h.controls (sends.resolve_left fun ⟨_, no⟩ => by cases no)
  | captions => exact h.captions (sends.resolve_left fun ⟨_, no⟩ => by cases no)
  | account => exact h.account

theorem Changes.runSteps (h : Changes a s x.state) {l : List BoundaryStep}
    (sends : ∀ y ∈ l, (∃ z, y = .task z) ∨ a.sends) (links : a.links) (routes : a.routes) (owned : s.Owned a) :
    Changes a s (l.foldl Sending.runStep x).state :=
  h.foldlSending fun _ hu y hy => hu.runStep (sends y hy) links routes owned

/-- In CONFIG the things of a boundary are tasks. -/
theorem State.boundarySteps_tasks {s : State} (config : s.mode = .config) (o : BoundaryOrder) :
    ∀ y ∈ s.boundarySteps o, ∃ z, y = .task z := by
  have tasks : ∀ l : List BoundaryTask, ∀ y ∈ l.map BoundaryStep.task, ∃ z, y = .task z := fun l y hy => by
    obtain ⟨z, -, rfl⟩ := List.mem_map.mp hy
    exact ⟨z, rfl⟩
  have between : ∀ l : List (List BoundaryTask), ∀ y ∈ interleave l [], ∃ z, y = .task z := fun l => by
    induction l with
    | nil => exact fun y hy => by cases hy
    | cons g l ih => exact fun y hy => (List.mem_append.mp hy).elim (tasks g y) (ih y)
  have idle : s.schedulerSteps = [] := by simp [State.schedulerSteps, State.running, config]
  intro y hy
  rw [State.boundarySteps, idle] at hy
  exact (List.mem_append.mp hy).elim (between _ y) (tasks _ y)

end Sys2Proof.Machine
end

section
set_option Elab.async false
/-! SUPPORT. Which elementary changes the reference unit, the parameter writes and the supervisory commands are made of, and
the course of every command: a stretch of work, a frame boundary between two of them, START, STOP or power-on reset. -/

namespace Sys2Proof.Machine

variable {a : Allow} {s t : State}

theorem Changes.pending {u v : State} (h : Changes a u v) : v.pending = u.pending :=
  h.keeps (P := fun w => w.pending = u.pending) (fun _ w c e => by
    refine Eq.trans ?_ e
    cases c with
    | quiet h => exact h .pending (by simp)
    | _ => rfl) rfl

/-! ### The reference unit -/

theorem Changes.setRef {u : RefUnit} (h : Changes a s t) (smc : u.smc = t.ref.smc) (sized : t.ref.sized → u.sized) :
    Changes a s { t with ref := u } := h.tail (.unit t u smc sized)

theorem RefUnit.sized.recordPulse {u : RefUnit} (h : u.sized) (m : Moment) : (u.recordPulse m).sized := h

theorem Changes.unlockedPulse (h : Changes a s t) (o : RefOrigin) (m : Moment) :
    Changes a s (t.unlockedPulse o m) := by
  unfold State.unlockedPulse
  dsimp only
  split
  · exact h.setRef rfl id
  · exact h.setRef rfl fun _ => ⟨by simp [RefUnit.startQualifying], by simp [RefUnit.startQualifying],
      fun _ => by simp [RefUnit.startQualifying]⟩

theorem Changes.missPulse (h : Changes a s t) : Changes a s t.missPulse := by
  unfold State.missPulse
  split
  · exact h.setRef rfl fun _ => ⟨Nat.zero_le _, Nat.zero_le _, fun _ => by simp⟩
  · exact h

/-- The unit before the boundary that a pulse in LOCKED makes. -/
def RefUnit.lockedPulse (u : RefUnit) (m : Moment) : RefUnit :=
  match u.goodPulse m with
  | none => u.recordPulse m
  | some i => { u.recordPulse m with history := joinHistory16 u.history i }

theorem State.lockedPulse_eq (s : State) (m : Moment) (o : BoundaryOrder) :
    s.lockedPulse m o =
      if s.ref.swallows m then { s with ref := s.ref.recordPulse m }
      else State.frameBoundary { s with ref := s.ref.lockedPulse m } m o := by
  unfold State.lockedPulse RefUnit.lockedPulse
  dsimp only
  split
  next => rfl
  next => cases s.ref.goodPulse m <;> rfl

theorem Changes.lockedUnit (h : Changes a s t) (m : Moment) : Changes a s { t with ref := t.ref.lockedPulse m } := by
  refine h.setRef ?_ fun ⟨history, good, counting⟩ => ?_
  · unfold RefUnit.lockedPulse
    split <;> rfl
  · unfold RefUnit.lockedPulse
    split
    · exact ⟨history, good, counting⟩
    · exact ⟨keepNewest_length_le 16 _, good, counting⟩

/-- The unit after a good pulse in QUALIFYING. -/
def RefUnit.counted (u : RefUnit) (m : Moment) (i : Nat) : RefUnit :=
  { u.recordPulse m with goodCount := u.goodCount + 1, history := joinHistory16 u.history i }

theorem Changes.countedUnit (h : Changes a s t) (qualifying : t.ref.state = .qualifying) (m : Moment) (i : Nat)
    (more : (t.ref.counted m i).goodCount ≠ 64) : Changes a s { t with ref := t.ref.counted m i } := by
  refine h.setRef rfl fun ⟨_, _, counting⟩ => ⟨keepNewest_length_le 16 _, ?_, fun _ => ?_⟩
  all_goals
    have := counting qualifying
    simp only [RefUnit.counted] at more ⊢
    omega

theorem Changes.lockingUnit (h : Changes a s t) (m : Moment) (i : Nat) (full : (t.ref.counted m i).goodCount = 64) :
    Changes a s ({ t with ref := (t.ref.counted m i).lock }.setAlert .refLocked none) := by
  have locked : Changes a s { t with ref := (t.ref.counted m i).lock } :=
    h.setRef rfl fun _ => ⟨keepNewest_length_le 16 _, full.le, fun no => by cases no⟩
  exact locked.setAlert _ _

theorem Changes.lostUnit (h : Changes a s t) : Changes a s
    (State.raise (State.setAlert { t with ref := t.ref.enterHoldover } .refLost none) (plainEvent .referenceLoss)) := by
  have lost : Changes a s { t with ref := t.ref.enterHoldover } :=
    h.setRef rfl fun ⟨history, _, _⟩ => ⟨history, Nat.zero_le _, fun no => by cases no⟩
  exact (lost.setAlert _ _).raise _

theorem Changes.takeLabel (h : Changes a s t) (ok : Bool) (l : Label) : Changes a s (t.takeLabel ok l) := by
  refine Changes.ite (fun _ => ?_) fun _ => h
  unfold State.checkLabel
  dsimp only
  split
  · exact h.setRef rfl id
  · split
    · exact h.setRef rfl id
    next x _ =>
      have reloaded : Changes a s
          { t with ref := { t.ref with anchor := some { x with frame := labelFrame l t.ref.rate } } } := h.setRef rfl id
      exact Changes.ite (fun _ => h) fun _ => reloaded.raise _

/-! ### Parameter writes -/

theorem Changes.setServicePar {k : Service} {par : ServiceParams} (h : Changes a s t) (routes : a.routes)
    (supervised : a.supervised) (rows : (2 ≤ (t.service k).par.baseRow ∧ (t.service k).par.baseRow ≤ 15) ∧
        (1 ≤ (t.service k).par.topRow ∧ (t.service k).par.topRow ≤ 14) →
      (2 ≤ par.baseRow ∧ par.baseRow ≤ 15) ∧ (1 ≤ par.topRow ∧ par.topRow ≤ 14))
    (enabled : par.enabled = (t.service k).par.enabled ∨ t.mode = .config) : Changes a s (t.setServicePar k par) :=
  h.setService {
    bands := fun law => { law with
      baseRow := (rows ⟨law.baseRow, law.topRow⟩).1, topRow := (rows ⟨law.baseRow, law.topRow⟩).2 }
    stores := fun _ law => { law with
      enabled := fun run on => by
        rcases enabled with same | config
        · exact law.enabled run (same ▸ on)
        · cases run.symm.trans config }
    routes := Or.inl routes
    enabled := Or.inl supervised }

theorem Changes.setPortPar {p : Port} {par : PortParams} (h : Changes a s t) (links : a.links) :
    Changes a s (t.setPortPar p par) := h.setPort { links := Or.inl links }

theorem Changes.writeFlowControl (h : Changes a s t) (links : a.links) (p : Port) (b : Bool) :
    Changes a s (t.writeFlowControl p b) :=
  Changes.ite (fun _ => (h.setPortPar links).sendResume p) fun _ => h.setPortPar links

theorem Changes.writeRoute (h : Changes a s t) (routes : a.routes) (supervised : a.supervised) (k : Service) (g : Option Group) :
    Changes a s (t.writeRoute k g) := by
  have written := h.setServicePar (k := k) (par := { (t.service k).par with route := g }) routes supervised id (Or.inl rfl)
  refine Changes.ite (fun on => written.changeRoute routes k g fun _ _ => Or.inr ?_) fun _ => written
  simp only [Bool.and_eq_true] at on
  simpa [State.setServicePar] using on.2

theorem Changes.writeSchedMode (h : Changes a s t) (m : SchedMode) : Changes a s (t.writeSchedMode m) := by
  refine Changes.ite (fun _ => h) fun _ => ?_
  have lowered : Changes a s { t with services := t.services.map fun v => { v with deficit := 0 } } :=
    h.tail (.services t _ fun k => by rw [Per4.get_map]; exact { deficit := fun _ => Nat.zero_le _ })
  exact lowered.quiet (by intro f hf; cases f <;> first | rfl | (exfalso; simp at hf))

theorem Changes.writePool (h : Changes a s t) (config : t.mode = .config) (r : Region) :
    Changes a s (t.writePool r) := by
  refine Changes.ite (fun _ => h) fun _ => ?_
  have unloaded : Changes a s { t with ports := t.ports.map fun x => { x with load := .idle } } :=
    h.tail (.ports t _ fun p => by rw [Per8.get_map]; exact {})
  exact unloaded.tail (.pool _ r config)

theorem Changes.writeRegion (h : Changes a s t) (links : a.links) (routes : a.routes) (supervised : a.supervised)
    (config : t.mode = .config) (n : RegionName) (r : Region) : Changes a s (t.writeRegion n r) := by
  cases n with
  | port p => exact h.setPortPar links
  | service k => exact h.setServicePar routes supervised id (Or.inl rfl)
  | pool => exact h.writePool config r

theorem Changes.writeRate (h : Changes a s t) (m : Moment) (r : Rate) : Changes a s (t.writeRate m r) :=
  Changes.ite (fun _ => h) fun _ => h.setRef rfl fun _ => ⟨Nat.zero_le _, Nat.zero_le _, fun no => by cases no⟩

theorem ServiceNumber.write_enabled (n : ServiceNumber) (par : ServiceParams) (v : Nat) :
    (n.write par v).enabled = par.enabled := by cases n <;> rfl

theorem inRange_iff (r : Nat × Nat) (v : Int) : inRange r v = true ↔ (r.1 : Int) ≤ v ∧ v ≤ (r.2 : Int) := by
  rw [inRange, Bool.and_eq_true, decide_eq_true_iff, decide_eq_true_iff]

theorem ServiceNumber.write_rows {n : ServiceNumber} {par : ServiceParams} {v : Int}
    (ok : inRange (n.range par) v = true)
    (h : (2 ≤ par.baseRow ∧ par.baseRow ≤ 15) ∧ (1 ≤ par.topRow ∧ par.topRow ≤ 14)) :
    (2 ≤ (n.write par v.toNat).baseRow ∧ (n.write par v.toNat).baseRow ≤ 15) ∧
      (1 ≤ (n.write par v.toNat).topRow ∧ (n.write par v.toNat).topRow ≤ 14) := by
  cases n with
  | baseRow =>
    obtain ⟨low, high⟩ := (inRange_iff _ _).mp ok
    simp only [ServiceNumber.range, ServiceNumber.write] at low high ⊢
    omega
  | topRow =>
    obtain ⟨low, high⟩ := (inRange_iff _ _).mp ok
    simp only [ServiceNumber.range, ServiceNumber.write] at low high ⊢
    omega
  | _ => exact h

theorem Changes.write (h : Changes a s t) (links : a.links) (routes : a.routes) (supervised : a.supervised) {x : Param}
    {m : Moment} {v : ParamValue} (mode : (t.running && !x.writableInRun) = false) (ok : x.accepts t v = true) :
    Changes a s (x.write m v t) := by
  have config (fixed : x.writableInRun = false) : t.mode = .config := by
    rw [fixed, Bool.not_false, Bool.and_true] at mode
    cases hm : t.mode
    · rfl
    · simp [State.running, hm] at mode
  unfold Param.write
  split
  · split
    · exact h
    · exact h.writeRate _ _
  · exact h.setRef rfl id
  · exact h.quiet (by intro f hf; cases f <;> first | rfl | (exfalso; simp at hf))
  · exact h.setPortPar links
  · exact h.setPortPar links
  · exact h.setPortPar links
  · exact h.writeFlowControl links _ _
  · exact h.setGroup {}
  · exact h.setGroup {}
  · exact h.setServicePar routes supervised id (Or.inr (config rfl))
  · exact h.writeRoute routes supervised _ _
  · exact h.setServicePar routes supervised (ServiceNumber.write_rows ok) (Or.inl (ServiceNumber.write_enabled _ _ _))
  · exact h.writeSchedMode _
  · exact h.quiet (by intro f hf; cases f <;> first | rfl | (exfalso; simp at hf))
  · exact h.writeRegion links routes supervised (config rfl) _ _
  · exact h.writeRegion links routes supervised (config rfl) _ _
  · exact h

/-! ### The supervisory commands -/

theorem Changes.setSup (h : Changes a s t) (u : Supervisory) : Changes a s { t with sup := u } :=
  h.quiet (by intro f hf; cases f <;> first | rfl | (exfalso; simp at hf))

theorem Changes.beginTransaction (h : Changes a s t) : Changes a s t.beginTransaction :=
  have begun := h.setSup t.sup.begin
  begun.tail (.send _ { t.sent with spi := t.sent.spi ++ [t.sup.shifted] } rfl (Or.inl rfl))

theorem Changes.carrier (h : Changes a s t) : Changes a s t.carrier := by
  unfold State.carrier
  split
  · exact h.beginTransaction
  · exact h

theorem State.command_eq (s : State) (type : Byte) (act : State → Reply) :
    s.command type act =
      if s.carrier.sup.transaction = .discarding then
        { s.carrier with sup := { s.carrier.sup with transaction := .none } }
      else
        { (act s.carrier).state with
          sup := { (act s.carrier).state.sup with
            executing := some ((act s.carrier).response type), transaction := .none } } := by
  unfold State.command
  dsimp only
  split
  next h => rw [if_pos h]
  next h => rw [if_neg h]

theorem Changes.command (h : Changes a s t) (type : Byte) {act : State → Reply}
    (acts : ∀ u, Changes a s u → Changes a s (act u).state) : Changes a s (t.command type act) := by
  rw [State.command_eq]
  exact Changes.ite (fun _ => h.carrier.setSup _) fun _ => (acts _ h.carrier).setSup _

theorem Changes.withIndex (h : Changes a s t) {n limit : Nat} {act : Fin limit → Reply}
    (acts : ∀ i, Changes a s (act i).state) : Changes a s (withIndex t n limit act).state := by
  unfold Machine.withIndex
  split
  · exact acts _
  · exact h

theorem Changes.inMode (h : Changes a s t) {m : Mode} {r : Reply} (acts : t.mode = m → Changes a s r.state) :
    Changes a s (inMode t m r).state := by
  unfold Machine.inMode
  split
  · exact acts ‹_›
  · exact h

theorem Changes.writeParam (h : Changes a s t) (links : a.links) (routes : a.routes) (supervised : a.supervised)
    (row member index : Nat) (m : Moment) (v : ParamValue) : Changes a s (writeParam row member index m v t).state := by
  unfold Machine.writeParam
  split
  · exact h
  · unfold writeChecked
    split
    · exact h
    next mode =>
      split
      · exact h
      next ok => exact h.write links routes supervised (by simpa using mode) (by simpa using ok)

theorem Changes.readParam (h : Changes a s t) (row member index : Nat) :
    Changes a s (readParam row member index t).state := by
  unfold Machine.readParam
  split
  · exact h
  · exact h

theorem Changes.flushPortQueue (h : Changes a s t) (p : Port) : Changes a s (flushPortQueue t p).state :=
  Changes.afterRemoval (h.setPort { intake := Or.inl (Nat.zero_le _) }) p

theorem flushed_step {k : Service} :
    ServiceStep a t k (t.service k) { t.service k with openCue := none, queue := [] } where
  texts := fun _ => ⟨fun _ no => (by cases no), fun _ no => by cases no⟩
  stores := fun _ h => { h with
    cues := fun _ => Nat.zero_le _
    opened := fun _ no => by cases no
    config := fun _ => ⟨rfl, rfl⟩ }
  queue := QueueStep.of_sublist _ (List.nil_sublist _)

theorem Changes.flushServiceCues (h : Changes a s t) (k : Service) : Changes a s (flushServiceCues t k).state :=
  Changes.foldl (h.setService flushed_step) fun _ hu c _ => hu.markCue k c _

theorem Changes.setCounters {cs : Per8 Counter} (h : Changes a s t)
    (sound : ∀ i, (t.counters.get i).sound → (cs.get i).sound) : Changes a s { t with counters := cs } :=
  h.tail (.counters t cs sound)

theorem Counter.select_sound {f : SelectionFields} {c : Counter} (h : Counter.select? f = some c) : c.sound := by
  unfold Counter.select? at h
  split at h
  · split at h
    · cases h
    · exact Option.some.inj h ▸ ⟨Nat.zero_le _, fun no => by cases no⟩
  · cases h

theorem Counter.sound.set {cs : Per8 Counter} {i j : Fin 8} {c : Counter} (new : c.sound) (old : (cs.get j).sound) :
    ((cs.set i c).get j).sound := by
  rw [Per8.get_set]
  split <;> assumption

theorem Changes.selectCounter (h : Changes a s t) (n : Nat) (f : SelectionFields) :
    Changes a s (selectCounter t n f).state :=
  h.withIndex fun i => by
    split
    · exact h
    next c selected => exact h.setCounters fun j old => (Counter.select_sound selected).set old

theorem Changes.clearCounter (h : Changes a s t) (n : Nat) : Changes a s (clearCounter t n).state :=
  h.withIndex fun _ => h.setCounters fun _ old => (Counter.sound_cleared _).set old

theorem Changes.readCounters (h : Changes a s t) (named : Per8 Bool) : Changes a s (readCounters t named).state :=
  h.setCounters fun i old => by
    rw [clearNamed, Per8.get_tabulate]
    split
    · exact Counter.sound_cleared _
    · exact old

theorem Changes.setAlerts (h : Changes a s t) (supervised : a.supervised) (as : Per8 AlertState) :
    Changes a s { t with alerts := as } := h.tail (.alerts t as fun _ => ⟨Or.inl supervised⟩)

theorem Changes.checkReply (h : Changes a s t) (type : Option Byte) : Changes a s (checkReply type t) := by
  unfold Machine.checkReply
  split
  · exact h.command _ fun _ hu => hu
  · have advanced : Changes a s { t with freeIndex := t.freeIndex + 1 } :=
      h.quiet (by intro f hf; cases f <;> first | rfl | (exfalso; simp at hf))
    exact advanced.command _ fun _ hu => hu

/-! ### The course of a command -/

/-- What a command other than a boundary, START, STOP and power-on reset may touch. -/
def Allow.work (s : State) : Allow where
  sends := False
  links := True
  routes := True
  opens k := (∃ e ∈ s.events, e.service = k) ∨ (s.service k).par.enabled = true
  supervised := True

/-- What a boundary may touch after its advance. -/
def Allow.boundary (s : State) : Allow := { Allow.work s with sends := s.mode = .run }

/-- The command can make a frame boundary. -/
def makesBoundary (c : Instr) : Prop :=
  (∃ m order, c = .referencePulse m order) ∨ (∃ order, c = .lossOfReference order) ∨
    (∃ order, c = .flywheelBoundary order)

/-- The course of a command from a state to a state. -/
inductive Course (c : Instr) (s : State) : State → Prop
  | work {t : State} (h : Changes (Allow.work s) s t) : Course c s t
  | boundary {t u : State} (m : Moment) (made : makesBoundary c) (before : Changes (Allow.work s) s t)
      (unit : t.ref.rate = s.ref.rate ∧ t.ref.phase = s.ref.phase) (ref : u.ref = t.ref.advance m)
      (after : Changes (Allow.boundary s) (t.advanceBoundary m) u) : Course c s u
  | reset (h : c = .powerOnReset) :
      Course c s { State.reset with pending := s.pending, sent := s.sent, freeIndex := s.freeIndex }
  | start {t : State} (x : Supervisory) (h : c = .start) (before : Changes (Allow.work s) s t) (config : t.mode = .config)
      (passed : layoutCheck t.takenRegions = none) : Course c s { t.enterRun with sup := x }
  | stop {t : State} (x : Supervisory) (h : c = .stop) (before : Changes (Allow.work s) s t) (run : t.mode = .run) :
      Course c s { t.leaveRun with sup := x }

end Sys2Proof.Machine
end

section
set_option Elab.async false
/-! SUPPORT. Every command has a course: what it answers, as a stretch of elementary changes, a frame boundary between two of
them, START, STOP or power-on reset. -/

namespace Sys2Proof.Machine

variable {c : Instr} {s t : State}

/-! ### Boundaries -/

@[simp] theorem State.advanceBoundary_mode (s : State) (m : Moment) : (s.advanceBoundary m).mode = s.mode := by
  simp only [State.advanceBoundary, State.raiseIf_mode]
  rfl

@[simp] theorem State.raiseIf_events (s : State) (b : Bool) (o : Occurrence) : (s.raiseIf b o).events = s.events := by
  cases b <;> simp

@[simp] theorem State.advanceBoundary_events (s : State) (m : Moment) :
    (s.advanceBoundary m).events = s.events.map fun e => { e with armed := true } := by
  simp only [State.advanceBoundary, State.raiseIf_events]
  rfl

@[simp] theorem State.raiseIf_ref (s : State) (b : Bool) (o : Occurrence) : (s.raiseIf b o).ref = s.ref := by
  cases b <;> simp

theorem State.advanceBoundary_ref (s : State) (m : Moment) : (s.advanceBoundary m).ref = s.ref.advance m := by
  simp only [State.advanceBoundary, State.raiseIf_ref]
  rfl

theorem State.owned_work (s : State) : s.Owned (Allow.work s) := fun e he => Or.inl ⟨e, he, rfl⟩

theorem State.Owned.advance {a : Allow} (h : t.Owned a) (m : Moment) : (t.advanceBoundary m).Owned a := by
  intro e he
  rw [State.advanceBoundary_events] at he
  obtain ⟨e', he', rfl⟩ := List.mem_map.mp he
  exact h e' he'

/-- The things of a boundary, with the samples of levels among them. -/
theorem Changes.sampledSteps {a : Allow} (h : Changes a s t) {steps : List BoundaryStep}
    (sends : ∀ y ∈ steps, (∃ z, y = .task z) ∨ a.sends) (links : a.links) (routes : a.routes) (owned : s.Owned a)
    (n budget : Nat) :
    Changes a s ((steps.drop n).foldl Sending.runStep
      ⟨((steps.take n).foldl Sending.runStep ⟨t, budget⟩).state.sampleLevels,
        ((steps.take n).foldl Sending.runStep ⟨t, budget⟩).budget⟩).state := by
  have first : Changes a s ((steps.take n).foldl Sending.runStep ⟨t, budget⟩).state :=
    Changes.runSteps (x := ⟨t, budget⟩) h (fun y hy => sends y (List.mem_of_mem_take hy)) links routes owned
  exact Changes.runSteps (x := ⟨State.sampleLevels _, _⟩) first.sampleLevels
    (fun y hy => sends y (List.mem_of_mem_drop hy)) links routes owned

/-- A frame boundary advances the unit; nothing taken at it touches the unit otherwise. -/
theorem State.frameBoundary_ref (s : State) (m : Moment) (o : BoundaryOrder) :
    (s.frameBoundary m o).ref = s.ref.advance m := by
  have finished : s.finishBoundary.ref = s.ref := finishBoundary_frame s .ref (by simp)
  have steps (x : Sending) (l : List BoundaryStep) : (l.foldl Sending.runStep x).state.ref = x.state.ref :=
    sending_foldl runStep_frame l x .ref (by simp)
  have sampled (t : State) : t.sampleLevels.ref = t.ref := sampleLevels_frame t .ref (by simp)
  unfold State.frameBoundary
  simp only [steps, sampled, State.advanceBoundary_ref, finished]

theorem Course.frameBoundary (made : makesBoundary c) (before : Changes (Allow.work s) s t)
    (unit : t.ref.rate = s.ref.rate ∧ t.ref.phase = s.ref.phase) (m : Moment) (o : BoundaryOrder) : Course c s (t.frameBoundary m o) := by
  have finished := before.finishBoundary trivial trivial s.owned_work
  have mode : (t.finishBoundary.advanceBoundary m).mode = s.mode := by simpa using finished.mode
  have sends : ∀ y ∈ (t.finishBoundary.advanceBoundary m).boundarySteps o,
      (∃ z, y = .task z) ∨ (Allow.boundary s).sends := fun y hy => by
    cases run : s.mode
    · exact Or.inl (State.boundarySteps_tasks (mode.trans run) o y hy)
    · exact Or.inr run
  have owned : (t.finishBoundary.advanceBoundary m).Owned (Allow.boundary s) :=
    State.Owned.advance (Changes.owned finished s.owned_work) m
  have same : t.finishBoundary.ref = t.ref := finishBoundary_frame t .ref (by simp)
  exact .boundary m made finished (by rw [same]; exact unit) (by rw [t.frameBoundary_ref, same])
    (Changes.sampledSteps .refl sends trivial trivial owned _ _)

theorem Course.qualifyingPulse (qualifying : s.ref.state = .qualifying) (m : Moment) (o : BoundaryOrder) :
    Course (.referencePulse m o) s (s.qualifyingPulse m o) := by
  cases good : s.ref.goodPulse m with
  | none =>
    simp only [State.qualifyingPulse, good]
    exact .work (Changes.setRef .refl rfl fun _ => ⟨Nat.zero_le _, Nat.zero_le _, fun _ => Nat.zero_lt_succ _⟩)
  | some i =>
    by_cases full : (s.ref.counted m i).goodCount = 64
    · have locked := Changes.lockingUnit (Relation.ReflTransGen.refl (r := Change (Allow.work s)) (a := s)) m i full
      have e : s.qualifyingPulse m o =
          (State.setAlert { s with ref := (s.ref.counted m i).lock } .refLocked none).lockedBoundary
            (s.ref.swallows m) m o := by
        simp only [State.qualifyingPulse, good]
        exact if_pos full
      rw [e, State.lockedBoundary]
      split
      · exact .work locked
      · exact .frameBoundary (Or.inl ⟨m, o, rfl⟩) locked ⟨rfl, rfl⟩ m o
    · have e : s.qualifyingPulse m o = { s with ref := s.ref.counted m i } := by
        simp only [State.qualifyingPulse, good]
        exact if_neg full
      rw [e]
      exact .work (Changes.countedUnit .refl qualifying m i full)

theorem RefUnit.lockedPulse_cadence (u : RefUnit) (m : Moment) :
    (u.lockedPulse m).rate = u.rate ∧ (u.lockedPulse m).phase = u.phase := by
  unfold RefUnit.lockedPulse
  split <;> exact ⟨rfl, rfl⟩

theorem Course.pulse (s : State) (m : Moment) (o : BoundaryOrder) : Course (.referencePulse m o) s (s.pulse m o) := by
  unfold State.pulse
  split
  · exact .work (Changes.unlockedPulse .refl _ m)
  · exact .work (Changes.unlockedPulse .refl _ m)
  next qualifying => exact .qualifyingPulse qualifying m o
  · rw [State.lockedPulse_eq]
    split
    · exact .work (Changes.setRef .refl rfl id)
    · exact .frameBoundary (Or.inl ⟨m, o, rfl⟩) (Changes.lockedUnit .refl m) (s.ref.lockedPulse_cadence m) m o

theorem Course.loseReference (s : State) (o : BoundaryOrder) : Course (.lossOfReference o) s (s.loseReference o) := by
  unfold State.loseReference
  split
  · exact .frameBoundary (Or.inr (Or.inl ⟨o, rfl⟩)) (Changes.lostUnit .refl) (by simp [RefUnit.enterHoldover]) _ o
  · exact .work .refl

theorem Course.flywheelTick (s : State) (o : BoundaryOrder) : Course (.flywheelBoundary o) s (s.flywheelTick o) := by
  unfold State.flywheelTick
  split
  · exact .work .refl
  next m _ =>
    have begun : Changes (Allow.work s) s { s with ref := { s.ref with flywheel := some (m + s.ref.flywheelPeriod) } } :=
      Changes.setRef .refl rfl id
    exact .frameBoundary (Or.inr (Or.inr ⟨o, rfl⟩)) begun ⟨rfl, rfl⟩ m o

/-! ### START and STOP -/

theorem Course.startCommand (s : State) :
    Course .start s (s.command SupervisoryCommand.start.type fun t => inMode t .config (startPart t)) := by
  have carried : Changes (Allow.work s) s s.carrier := Changes.carrier .refl
  rw [State.command_eq]
  split
  · exact .work (carried.setSup _)
  · unfold inMode
    split
    next config =>
      unfold startPart
      split
      · exact .work (carried.setSup _)
      next passed => exact .start _ rfl carried config passed
    · exact .work (carried.setSup _)

theorem Course.stopCommand (s : State) :
    Course .stop s (s.command SupervisoryCommand.stop.type fun t => inMode t .run (done t.leaveRun)) := by
  have carried : Changes (Allow.work s) s s.carrier := Changes.carrier .refl
  rw [State.command_eq]
  split
  · exact .work (carried.setSup _)
  · unfold inMode
    split
    next run => exact .stop _ rfl carried run
    · exact .work (carried.setSup _)

/-! ### Every command -/

theorem Course.command (s : State) (type : Byte) {act : State → Reply}
    (acts : ∀ u, Changes (Allow.work s) s u → Changes (Allow.work s) s (act u).state) :
    Course c s (s.command type act) := .work (Changes.command .refl type acts)

theorem Course.writeParam (s : State) (row member index : Nat) (m : Moment) (v : ParamValue) :
    Course c s (s.command SupervisoryCommand.parameterWrite.type (writeParam row member index m v)) :=
  .command s _ fun _ hu => hu.writeParam trivial trivial trivial _ _ _ _ _

/-- Every command answers a next state, and has a course to it. -/
theorem exec_next_course (c : Instr) (s : State) : ∃ t, exec c s = .next t ∧ Course c s t := by
  cases c with
  | powerOnReset => exact ⟨_, rfl, .reset rfl⟩
  | referencePulse m o => exact ⟨_, rfl, .pulse s m o⟩
  | missingPulse => exact ⟨_, rfl, .work (Changes.missPulse .refl)⟩
  | lossOfReference o => exact ⟨_, rfl, .loseReference s o⟩
  | flywheelBoundary o => exact ⟨_, rfl, .flywheelTick s o⟩
  | frameLabel ok l => exact ⟨_, rfl, .work (Changes.takeLabel .refl ok l)⟩
  | contributorFrameFailure p raw => exact ⟨_, rfl, .work (Changes.contributorFailure .refl trivial p raw)⟩
  | word p x => exact ⟨_, rfl, .work (Changes.receiveBytes .refl trivial p _ x (Changes.takeInWord p x))⟩
  | retract p n => exact ⟨_, rfl, .work (Changes.receive .refl trivial p _ (Changes.takeInRetract p n))⟩
  | stamp p x => exact ⟨_, rfl, .work (Changes.receiveBytes .refl trivial p _ x (Changes.takeInStamp trivial p x))⟩
  | take p =>
    exact ⟨_, rfl, .work (Changes.receive .refl trivial p _ fun u v hu _ e =>
      Option.some.inj e ▸ hu.decideTake trivial p)⟩
  | release p =>
    exact ⟨_, rfl, .work (Changes.receive .refl trivial p _ fun u v hu _ e =>
      Option.some.inj e ▸ hu.decideRelease trivial p)⟩
  | pkgOpen p id n => exact ⟨_, rfl, .work (Changes.receive .refl trivial p _ (Changes.takeInOpen p id n))⟩
  | pkgCue p x => exact ⟨_, rfl, .work (Changes.receive .refl trivial p _ (Changes.takeInCue p x))⟩
  | pkgClose p id => exact ⟨_, rfl, .work (Changes.receive .refl trivial p _ (Changes.takeInClose p id))⟩
  | pkgDrop p id => exact ⟨_, rfl, .work (Changes.receive .refl trivial p _ (Changes.takeInDrop p id))⟩
  | refreshDeadlineExpiry p => exact ⟨_, rfl, .work (Changes.expireRefresh .refl p)⟩
  | silenceDeadlineExpiry p => exact ⟨_, rfl, .work (Changes.expireSilence .refl trivial p)⟩
  | wordRecordTake p => exact ⟨_, rfl, .work (Changes.takeWord .refl trivial p)⟩
  | retractRecordTake p => exact ⟨_, rfl, .work (Changes.takeRetract .refl p)⟩
  | pkgOpenTake p => exact ⟨_, rfl, .work (Changes.takeOpen .refl p)⟩
  | pkgCueTake p => exact ⟨_, rfl, .work (Changes.takeCue .refl p)⟩
  | pkgCloseTake p => exact ⟨_, rfl, .work (Changes.takeClose .refl p)⟩
  | pkgDropTake p => exact ⟨_, rfl, .work (Changes.takeDrop .refl p)⟩
  | yieldDeadlineExpiry g => exact ⟨_, rfl, .work (Changes.expireYield .refl trivial g)⟩
  | cutTimeAged g => exact ⟨_, rfl, .work (Changes.ageCut .refl g)⟩
  | idleDeadlineExpiry k => exact ⟨_, rfl, .work (Changes.expireIdle .refl k)⟩
  | clearDeadlineExpiry k => exact ⟨_, rfl, .work (Changes.expireClear .refl k)⟩
  | outputStalled => exact ⟨_, rfl, .work (Changes.checkStall .refl)⟩
  | ready =>
    exact ⟨_, rfl, .work (Changes.quiet .refl (by intro f hf; cases f <;> first | rfl | (exfalso; simp at hf)))⟩
  | busy =>
    exact ⟨_, rfl, .work (Changes.quiet .refl (by intro f hf; cases f <;> first | rfl | (exfalso; simp at hf)))⟩
  | outputFrameDropped => exact ⟨_, rfl, .work .refl⟩
  | event x => exact ⟨_, rfl, .work (Changes.takeEvent .refl (fun _ on => Or.inr on) x)⟩
  | automationFrameDropped => exact ⟨_, rfl, .work .refl⟩
  | effectTimeExpiry => exact ⟨_, rfl, .work (Changes.expireEffects .refl trivial s.owned_work)⟩
  | switchTimeExpiry k => exact ⟨_, rfl, .work (Changes.expireSwitches .refl k)⟩
  | liveStartAged k => exact ⟨_, rfl, .work (Changes.ageLiveStart .refl k)⟩
  | lastChangeAged k => exact ⟨_, rfl, .work (Changes.ageLastChange .refl k)⟩
  | transactionStart => exact ⟨_, rfl, .work (Changes.beginTransaction .refl)⟩
  | commandCheckFailed raw =>
    simp only [exec, execCommandCheckFailed]
    split
    · exact ⟨_, rfl, .work (Changes.checkReply .refl _)⟩
    · exact ⟨_, rfl, .work .refl⟩
  | unknownCommandType type =>
    simp only [exec, execUnknownCommandType]
    split
    · exact ⟨_, rfl, .work .refl⟩
    · exact ⟨_, rfl, .command s _ fun _ hu => hu⟩
  | parameterRead row member index => exact ⟨_, rfl, .command s _ fun _ hu => hu.readParam _ _ _⟩
  | parameterWrite m row member index v => exact ⟨_, rfl, .writeParam s _ _ _ _ _⟩
  | frameRateWrite m v => exact ⟨_, rfl, .writeParam s _ _ _ _ _⟩
  | configuredRouteWrite index v => exact ⟨_, rfl, .writeParam s _ _ _ _ _⟩
  | flowControlWrite index v => exact ⟨_, rfl, .writeParam s _ _ _ _ _⟩
  | schedulingModeWrite v => exact ⟨_, rfl, .writeParam s _ _ _ _ _⟩
  | poolRegionWrite member v => exact ⟨_, rfl, .writeParam s _ _ _ _ _⟩
  | start => exact ⟨_, rfl, .startCommand s⟩
  | stop => exact ⟨_, rfl, .stopCommand s⟩
  | flushPort n =>
    exact ⟨_, rfl, .command s _ fun _ hu => hu.inMode fun _ => hu.withIndex fun p => hu.flushPortQueue p⟩
  | flushService n =>
    exact ⟨_, rfl, .command s _ fun _ hu => hu.inMode fun _ => hu.withIndex fun k => hu.flushServiceCues k⟩
  | counterSelect n f => exact ⟨_, rfl, .command s _ fun _ hu => hu.selectCounter n f⟩
  | counterClear n => exact ⟨_, rfl, .command s _ fun _ hu => hu.clearCounter n⟩
  | counterRead named => exact ⟨_, rfl, .command s _ fun _ hu => hu.readCounters named⟩
  | alertStatus => exact ⟨_, rfl, .command s _ fun _ hu => hu⟩
  | alertClear marks => exact ⟨_, rfl, .command s _ fun _ hu => hu.setAlerts trivial _⟩
  | alertEnable marks => exact ⟨_, rfl, .command s _ fun _ hu => hu.setAlerts trivial _⟩
  | referenceStatus => exact ⟨_, rfl, .command s _ fun _ hu => hu⟩
  | portStatus n => exact ⟨_, rfl, .command s _ fun _ hu => hu.withIndex fun _ => hu⟩
  | groupStatus n => exact ⟨_, rfl, .command s _ fun _ hu => hu.withIndex fun _ => hu⟩
  | serviceStatus n => exact ⟨_, rfl, .command s _ fun _ hu => hu.withIndex fun _ => hu⟩
  | layoutStatus => exact ⟨_, rfl, .command s _ fun _ hu => hu⟩
  | automationStatus => exact ⟨_, rfl, .command s _ fun _ hu => hu⟩
  | packageStatus => exact ⟨_, rfl, .command s _ fun _ hu => hu⟩
  | responseReady => exact ⟨_, rfl, .work (Changes.setSup .refl _)⟩

theorem exec_course (h : exec c s = .next t) : Course c s t := by
  obtain ⟨u, next_, course⟩ := exec_next_course c s
  cases h.symm.trans next_
  exact course

@[simp] theorem State.advanceBoundary_pending (s : State) (m : Moment) : (s.advanceBoundary m).pending = s.pending := by
  unfold State.advanceBoundary
  exact raiseIf_frame _ _ _ .pending (by simp)

theorem Course.pending (h : Course c s t) : t.pending = s.pending := by
  cases h with
  | work h => exact h.pending
  | boundary m made before _ _ after => rw [after.pending, State.advanceBoundary_pending, before.pending]
  | reset => rfl
  | start _ _ before => exact before.pending
  | stop _ _ before => exact before.pending

/-- A step runs a command over the rest of the queue, or idles. -/
theorem step_next (h : step s = .next t) : t = s ∨ ∃ c rest, exec c { s with pending := rest } = .next t := by
  unfold step at h
  split at h
  · exact Or.inl (by cases h; rfl)
  · exact Or.inr ⟨_, _, h⟩

end Sys2Proof.Machine

open Sys2Proof.Machine

/-- Settles O2, since every command has a course to a next state. -/
theorem everyCommandCompletes : Obligations.EveryCommandCompletes := by
  intro c s
  obtain ⟨t, next_, course⟩ := exec_next_course c s
  exact ⟨t, next_, course.pending⟩

end

section
set_option Elab.async false
/-! SUPPORT. The laws of the device along the course of a command: a frame boundary, START, STOP and power-on reset keep what an
elementary change keeps. -/

namespace Sys2Proof.Machine

variable {c : Instr} {s t : State}

/-! ### A law along a course -/

/-- The state when the SMC has advanced, before HOLDOVER_FRAMES is raised. -/
def State.advanced (s : State) (m : Moment) : State := State.armTimers { s with ref := s.ref.advance m }

theorem Changes.advanceBoundary {a : Allow} (s : State) (m : Moment) :
    Changes a (s.advanced m) (s.advanceBoundary m) := Changes.raiseIf .refl _ _

/-- The part after power-on reset, with the model's own fields as they stood. -/
def State.afterReset (s : State) : State :=
  { State.reset with pending := s.pending, sent := s.sent, freeIndex := s.freeIndex }

theorem Course.keeps {P : State → Prop} (change : ∀ {a u v}, Change a u v → P u → P v)
    (advanced : ∀ u m, P u → P (u.advanced m)) (reset : ∀ u, P u → P u.afterReset)
    (start : ∀ u : State, u.mode = .config → layoutCheck u.takenRegions = none → P u → P u.enterRun)
    (stop : ∀ u : State, u.mode = .run → P u → P u.leaveRun) (h : Course c s t) (law : P s) : P t := by
  have work {a : Allow} {u v : State} (h : Changes a u v) : P u → P v := h.keeps fun _ _ => change
  cases h with
  | work h => exact work h law
  | boundary m made before _ _ after =>
    exact work after (work (Changes.advanceBoundary (a := .inner) _ m) (advanced _ m (work before law)))
  | reset => exact reset s law
  | start x _ before config passed =>
    exact work (Changes.setSup (a := .inner) .refl x) (start _ config passed (work before law))
  | stop x _ before run => exact work (Changes.setSup (a := .inner) .refl x) (stop _ run (work before law))

/-- What every command keeps, every step keeps. -/
theorem step_keeps {P : State → Prop} (rest : ∀ s l, P s → P { s with pending := l })
    (command : ∀ {c s t}, Course c s t → P s → P t) (law : P s) (h : step s = .next t) : P t := by
  rcases step_next h with rfl | ⟨c, l, next_⟩
  · exact law
  · exact command (exec_course next_) (rest s l law)

/-! ### The services, ports and packages of a boundary, of START and of STOP -/

theorem State.advanced_service (s : State) (m : Moment) (k : Service) :
    (s.advanced m).service k =
      { s.service k with switches := (s.service k).switches.map fun e => { e with armed := true } } :=
  Per4.get_map _ _ _

theorem State.enterRun_service (s : State) (k : Service) : s.enterRun.service k = (s.service k).started :=
  Per4.get_map _ _ _

theorem State.leaveRun_service (s : State) (k : Service) : s.leaveRun.service k = (s.service k).stopped :=
  Per4.get_map _ _ _

theorem State.enterRun_port (s : State) (p : Port) :
    s.enterRun.port p = (s.port p).started (takenRegion s.takenRegions (.port p)) := Per8.get_tabulate _ _

theorem State.leaveRun_port (s : State) (p : Port) : s.leaveRun.port p = (s.port p).stopped := Per8.get_map _ _ _

theorem State.leaveRun_group (s : State) (g : Group) : s.leaveRun.group g = (s.group g).stopped := Per4.get_map _ _ _

@[simp] theorem State.reset_service (k : Service) : State.reset.service k = .reset := Per4.get_all _ _
@[simp] theorem State.reset_port (p : Port) : State.reset.port p = .reset := Per8.get_all _ _
@[simp] theorem State.reset_group (g : Group) : State.reset.group g = .reset := Per4.get_all _ _

theorem mem_takenRegions_iff (s : State) (x : Taken) : x ∈ s.takenRegions ↔
    (∃ p, (s.port p).par.kind ≠ .unused ∧ x = ⟨.port p, (s.port p).par.region⟩) ∨
    (∃ k, (s.service k).par.enabled = true ∧ x = ⟨.service k, (s.service k).par.region⟩) ∨
    (((∃ p, (s.port p).par.kind = .script) ∨ s.poolRegion.count ≠ 0) ∧ x = ⟨.pool, s.poolRegion⟩) := by
  simp only [State.takenRegions, List.mem_append, List.mem_map, List.mem_filter, mem_allPorts, mem_allServices, true_and,
    bne_iff_ne, List.any_eq_true, beq_iff_eq, Bool.or_eq_true]
  constructor
  · rintro ((⟨p, hp, rfl⟩ | ⟨k, hk, rfl⟩) | hx)
    · exact Or.inl ⟨p, hp, rfl⟩
    · exact Or.inr (Or.inl ⟨k, hk, rfl⟩)
    · split at hx
      next cond => exact Or.inr (Or.inr ⟨cond, List.mem_singleton.mp hx⟩)
      next => cases hx
  · rintro (⟨p, hp, rfl⟩ | ⟨k, hk, rfl⟩ | ⟨cond, rfl⟩)
    · exact Or.inl (Or.inl ⟨p, hp, rfl⟩)
    · exact Or.inl (Or.inr ⟨k, hk, rfl⟩)
    · exact Or.inr (by rw [if_pos cond]; exact List.mem_singleton_self _)

/-- The region that the check takes for a collection is the one configured for it. -/
theorem State.takenRegion_eq {s : State} {n : RegionName} {r : Region} (h : takenRegion s.takenRegions n = some r) :
    ⟨n, r⟩ ∈ s.takenRegions ∧ r = s.regionOf n := by
  obtain ⟨x, found, rfl⟩ := Option.map_eq_some_iff.mp h
  have mem := List.mem_of_find?_eq_some found
  have name : x.name = n := by simpa using List.find?_some found
  subst name
  refine ⟨mem, ?_⟩
  rcases (mem_takenRegions_iff s x).mp mem with ⟨p, -, rfl⟩ | ⟨k, -, rfl⟩ | ⟨-, rfl⟩ <;> rfl

theorem takenRegion_of_mem {l : List Taken} {n : RegionName} {r : Region} (h : ⟨n, r⟩ ∈ l) :
    (takenRegion l n).isSome = true := by
  rw [takenRegion, Option.isSome_map, List.find?_isSome]
  exact ⟨_, h, by simp⟩

theorem takenRegion_service {s : State} {k : Service} (on : (s.service k).par.enabled = true) :
    takenRegion s.takenRegions (.service k) = some (s.service k).par.region := by
  obtain ⟨r, found⟩ := Option.isSome_iff_exists.mp
    (takenRegion_of_mem ((mem_takenRegions_iff s _).mpr (Or.inr (Or.inl ⟨k, on, rfl⟩))))
  rw [found, (State.takenRegion_eq found).2]
  rfl

/-- A layout check that passes leaves no region without a block. -/
theorem count_of_layoutCheck {l : List Taken} (passed : layoutCheck l = none) {x : Taken} (h : x ∈ l) :
    x.region.count ≠ 0 := by
  intro empty
  have := List.findSome?_eq_none_iff.mp passed x h
  simp [regionFailure, empty] at this

theorem records_stopped (l : List (Option PackageRecord)) :
    ((packagesStopped l).filterMap id).Sublist (l.filterMap id) := by
  induction l with
  | nil => exact List.Sublist.refl _
  | cons o l ih =>
    rcases o with _ | r
    · exact ih
    · by_cases ready : r.state = .ready
      · have same : packagesStopped (some r :: l) = some r :: packagesStopped l := by simp [packagesStopped, ready]
        rw [same]
        exact ih.cons_cons r
      · have gone : packagesStopped (some r :: l) = none :: packagesStopped l := by simp [packagesStopped, ready]
        rw [gone]
        exact ih.cons r

theorem poolUse_stopped (l : List (Option PackageRecord)) : poolUse (packagesStopped l) ≤ poolUse l :=
  ((records_stopped l).map _).sum_le_sum fun _ _ => Nat.zero_le _

/-! ### The laws of the reset state -/

theorem counterLaw_reset : CounterLaw State.reset := fun i => by
  rw [show State.reset.counters.get i = .reset from Per8.get_all _ _]
  exact ⟨Nat.zero_le _, fun no => by cases no⟩

theorem sizeLaw_reset : SizeLaw State.reset where
  events := Nat.zero_le _
  switches k := by rw [State.reset_service]; exact Nat.zero_le _
  window p := by rw [State.reset_port]; exact Nat.zero_le _
  history p := by rw [State.reset_port]; exact Nat.zero_le _
  intervals := Nat.zero_le _
  goodCount := Nat.zero_le _
  counting := fun no => by cases no
  deficit k := by rw [State.reset_service]; exact Nat.zero_le _

theorem ServiceState.reset_banded : ServiceState.reset.banded where
  baseRow := by decide
  topRow := by decide
  committed := fun _ no => by cases no
  shown := fun _ no => by cases no
  moving := fun _ no => by cases no
  moved := fun _ _ no => by cases no

theorem packageLaw_reset : PackageLaw State.reset where
  slots := rfl
  distinct := List.nodup_nil
  pool := Nat.zero_le _
  inForce := fun no => by cases no

theorem storeLaw_reset : StoreLaw State.reset :=
  (storeLaw_iff _).mpr
    ⟨fun p => ⟨fun no => (by cases no), fun _ => by rw [State.reset_port]; rfl⟩,
      fun k => ⟨fun no => (by cases no), fun no => (by cases no), fun no => (by cases no), fun no => (by cases no),
        fun _ => by rw [State.reset_service]; exact ⟨rfl, rfl⟩⟩,
      ⟨fun no => (by cases no), fun _ => rfl⟩⟩

theorem ServiceState.texted_of_empty {v : ServiceState} (open_ : v.openCue = none) (queue : v.queue = []) :
    v.texted :=
  ⟨fun _ no => (by cases open_.symm.trans no), fun _ no => by rw [queue] at no; cases no⟩

theorem textLaw_reset : TextLaw State.reset :=
  (textLaw_iff _).mpr fun k => by rw [State.reset_service]; exact ServiceState.texted_of_empty rfl rfl

/-! ### Each law along the course of a command -/

theorem Course.counterLaw (h : Course c s t) (law : CounterLaw s) : CounterLaw t :=
  h.keeps Change.counterLaw (fun _ _ => id) (fun _ _ => counterLaw_reset) (fun _ _ _ => id) (fun _ _ => id) law

theorem Course.sizeLaw (h : Course c s t) (law : SizeLaw s) : SizeLaw t := by
  refine h.keeps Change.sizeLaw (fun u m hu => ?advanced) (fun u _ => ?reset) (fun u _ _ hu => ?start)
    (fun u _ hu => ?stop) law
  case advanced =>
    exact { hu with
      events := by simpa [State.advanced, State.armTimers] using hu.events
      switches := fun k => by rw [State.advanced_service]; simpa using hu.switches k
      deficit := fun k => by rw [State.advanced_service]; exact hu.deficit k }
  case reset => exact { sizeLaw_reset with }
  case start =>
    exact { hu with
      switches := fun k => by rw [State.enterRun_service]; exact hu.switches k
      deficit := fun k => by rw [State.enterRun_service]; exact hu.deficit k
      window := fun p => by rw [State.enterRun_port]; exact hu.window p
      history := fun p => by rw [State.enterRun_port]; exact hu.history p }
  case stop =>
    exact { hu with
      events := Nat.zero_le _
      switches := fun k => by rw [State.leaveRun_service]; exact Nat.zero_le _
      deficit := fun k => by rw [State.leaveRun_service]; exact Nat.zero_le _
      window := fun p => by rw [State.leaveRun_port]; exact Nat.zero_le _
      history := fun p => by rw [State.leaveRun_port]; exact Nat.zero_le _ }

theorem ServiceState.banded.stopped {v : ServiceState} (h : v.banded) : v.stopped.banded where
  baseRow := h.baseRow
  topRow := h.topRow
  committed := fun _ no => by cases no
  shown := fun _ no => by cases no
  moving := fun _ no => by cases no
  moved := fun _ _ no => by cases no

theorem Course.bandLaw (h : Course c s t) (law : BandLaw s) : BandLaw t := by
  refine h.keeps Change.bandLaw (fun u m hu => ?advanced) (fun u hu => ?reset) (fun u _ _ hu => ?start)
    (fun u _ hu => ?stop) law
  all_goals obtain ⟨bands, sent⟩ := (bandLaw_iff u).mp hu
  case advanced => exact (bandLaw_iff _).mpr ⟨fun k => by rw [State.advanced_service]; exact bands k, sent⟩
  case reset =>
    exact (bandLaw_iff _).mpr ⟨fun k => (State.reset_service k : u.afterReset.service k = _) ▸ ServiceState.reset_banded, sent⟩
  case start => exact (bandLaw_iff _).mpr ⟨fun k => by rw [State.enterRun_service]; exact bands k, sent⟩
  case stop =>
    refine (bandLaw_iff _).mpr ⟨fun k => by rw [State.leaveRun_service]; exact (bands k).stopped, fun m hm => ?_⟩
    rcases List.mem_append.mp hm with old | new
    · exact sent m old
    · obtain ⟨k, -, rfl⟩ := List.mem_map.mp new
      trivial

theorem Course.packageLaw (h : Course c s t) (law : PackageLaw s) : PackageLaw t := by
  refine h.keeps Change.packageLaw (fun u m hu => ?advanced) (fun u _ => ?reset) (fun u config _ hu => ?start)
    (fun u _ hu => ?stop) law
  case advanced => exact { hu with }
  case reset => exact { packageLaw_reset with }
  case start =>
    refine { hu with inForce := fun _ => ?_ }
    have force : u.enterRun.poolCapacity = ((takenRegion u.takenRegions .pool).map Region.capacity).getD 0 := rfl
    rw [force]
    rcases taken : takenRegion u.takenRegions .pool with _ | r
    · have none : u.poolRegion.count = 0 := by
        by_contra some
        have := takenRegion_of_mem ((mem_takenRegions_iff u ⟨.pool, u.poolRegion⟩).mpr (Or.inr (Or.inr ⟨Or.inr some, rfl⟩)))
        simp [taken] at this
      exact (congrArg (64 * ·) none).symm
    · rw [(State.takenRegion_eq taken).2]
      rfl
  case stop =>
    exact {
      slots := by simpa [State.leaveRun, packagesStopped] using hu.slots
      distinct := hu.distinct.sublist ((records_stopped u.packages).map _)
      pool := (poolUse_stopped u.packages).trans hu.pool
      inForce := fun no => by cases no }

theorem Course.textLaw (h : Course c s t) (law : TextLaw s) : TextLaw t := by
  refine h.keeps Change.textLaw (fun u m hu => ?advanced) (fun u _ => ?reset) (fun u _ _ hu => ?start)
    (fun u _ hu => ?stop) law
  case advanced => exact (textLaw_iff _).mpr fun k => by rw [State.advanced_service]; exact (textLaw_iff u).mp hu k
  case reset => exact { textLaw_reset with }
  case start => exact (textLaw_iff _).mpr fun k => by rw [State.enterRun_service]; exact (textLaw_iff u).mp hu k
  case stop =>
    exact (textLaw_iff _).mpr fun k => by rw [State.leaveRun_service]; exact ServiceState.texted_of_empty rfl rfl

theorem StoreLaw.opens (law : StoreLaw s) (run : s.mode = .run) (k : Service) (h : (Allow.work s).opens k) :
    0 < s.queueCapacity k := by
  rcases h with ⟨e, he, rfl⟩ | on
  · exact law.routes run e he
  · exact law.enabled run k on

theorem StoreLaw.advanced (law : StoreLaw s) (m : Moment) : StoreLaw (s.advanced m) := by
  obtain ⟨ports, services, routes⟩ := (storeLaw_iff s).mp law
  refine (storeLaw_iff _).mpr ⟨fun p => { ports p with }, fun k => ?_, fun run e he => ?_, fun config => ?_⟩
  · rw [State.advanced_service]
    exact { services k with }
  · obtain ⟨e', he', rfl⟩ := List.mem_map.mp he
    exact routes.routes run e' he'
  · simp [State.advanced, State.armTimers, routes.config config]

theorem StoreLaw.enterRun (law : StoreLaw s) (config : s.mode = .config) (passed : layoutCheck s.takenRegions = none) :
    StoreLaw s.enterRun := by
  have room (k : Service) (on : (s.service k).par.enabled = true) : 0 < s.enterRun.queueCapacity k := by
    have force : s.enterRun.queueCapacity k =
        ((takenRegion s.takenRegions (.service k)).map Region.capacity).getD 0 := by
      simp [State.queueCapacity, State.enterRun, layoutOf]
    have taken := takenRegion_service on
    have count := count_of_layoutCheck passed (State.takenRegion_eq taken).1
    rw [force, taken]
    simp only [Option.map_some, Option.getD_some, Region.capacity]
    simp only at count
    omega
  refine (storeLaw_iff _).mpr ⟨fun p => ⟨fun _ => ?_, fun no => by cases no⟩, fun k => ?_,
    fun _ e he => ?_, fun no => by cases no⟩
  · rw [State.enterRun_port]
    simp [PortState.started, law.configPorts config p]
  · obtain ⟨queue, open_⟩ := law.configServices config k
    rw [State.enterRun_service]
    exact {
      cues := fun _ => by simp [ServiceState.started, queue]
      enabled := fun _ => room k
      routed := fun _ some => room k (by
        by_contra off
        simp [ServiceState.started, off] at some)
      opened := fun _ some => by simp [ServiceState.started, open_] at some
      config := fun no => by cases no }
  · rw [show s.enterRun.events = [] from law.configEvents config] at he
    cases he

theorem StoreLaw.leaveRun (s : State) : StoreLaw s.leaveRun :=
  (storeLaw_iff _).mpr
    ⟨fun p => ⟨fun no => (by cases no), fun _ => by rw [State.leaveRun_port]; rfl⟩,
      fun k => ⟨fun no => (by cases no), fun no => (by cases no), fun no => (by cases no), fun no => (by cases no),
        fun _ => by rw [State.leaveRun_service]; exact ⟨rfl, rfl⟩⟩,
      ⟨fun no => (by cases no), fun _ => rfl⟩⟩

/-- The services that a stretch of work begun in `s` may route have room where the layout and the mode of `s` stand. -/
theorem StoreLaw.opens_of (law : StoreLaw s) (mode : t.mode = s.mode) (layout : t.layout = s.layout)
    (run : t.mode = .run) (k : Service) (h : (Allow.work s).opens k) : 0 < t.queueCapacity k := by
  rw [State.queueCapacity_congr layout]
  exact law.opens (mode ▸ run) k h

@[simp] theorem State.advanceBoundary_layout (s : State) (m : Moment) : (s.advanceBoundary m).layout = s.layout :=
  (Changes.layout (Changes.advanceBoundary (a := .inner) s m)).trans rfl

theorem Course.storeLaw (h : Course c s t) (law : StoreLaw s) : StoreLaw t := by
  have before {u : State} (h : Changes (Allow.work s) s u) : StoreLaw u := h.storeLaw (law.opens_of rfl rfl) law
  cases h with
  | work h => exact before h
  | @boundary u _ m made first _ _ after =>
    have mode : (u.advanceBoundary m).mode = s.mode := (u.advanceBoundary_mode m).trans first.mode
    have layout : (u.advanceBoundary m).layout = s.layout := (u.advanceBoundary_layout m).trans first.layout
    exact after.storeLaw (law.opens_of mode layout)
      ((Changes.advanceBoundary (a := .inner) u m).storeLaw (fun _ _ no => no.elim) ((before first).advanced m))
  | reset => exact { storeLaw_reset with }
  | start _ _ first config passed => exact { (before first).enterRun config passed with }
  | @stop u _ _ _ _ => exact { StoreLaw.leaveRun u with }

/-! ### The SMC and the mode -/

theorem Course.smc (h : Course c s t) :
    t.ref.smc = s.ref.smc ∨
      (makesBoundary c ∧ t.ref.smc = s.ref.nextBoundary ∧ t.ref.phase = s.ref.rate.nextPhase s.ref.phase) ∨
      (c = .powerOnReset ∧ t.ref.smc = 0) := by
  cases h with
  | work h => exact Or.inl h.smc
  | boundary m made before unit ref after =>
    obtain ⟨rate, phase⟩ := unit
    refine Or.inr (Or.inl ⟨made, ?_, ?_⟩)
    · rw [ref, RefUnit.advance, RefUnit.nextBoundary, RefUnit.nextBoundary, rate, phase, before.smc]
    · rw [ref, RefUnit.advance, rate, phase]
  | reset h => exact Or.inr (Or.inr ⟨h, rfl⟩)
  | start _ _ before => exact Or.inl before.smc
  | stop _ _ before => exact Or.inl before.smc

theorem Course.mode (h : Course c s t) :
    t.mode = s.mode ∨ (c = .start ∧ s.mode = .config ∧ t.mode = .run) ∨
      (c = .stop ∧ s.mode = .run ∧ t.mode = .config) ∨ (c = .powerOnReset ∧ t.mode = .config) := by
  cases h with
  | work h => exact Or.inl h.mode
  | boundary m made before _ _ after =>
    exact Or.inl (after.mode.trans ((State.advanceBoundary_mode _ m).trans before.mode))
  | reset h => exact Or.inr (Or.inr (Or.inr ⟨h, rfl⟩))
  | start _ h before config => exact Or.inr (Or.inl ⟨h, before.mode.symm.trans config, rfl⟩)
  | stop _ h before run => exact Or.inr (Or.inr (Or.inl ⟨h, before.mode.symm.trans run, rfl⟩))

/-! ### The output and automation links in CONFIG -/

theorem Course.silent (h : Course c s t) (config : s.mode = .config) :
    t.sent.output = s.sent.output ∧ t.sent.automation = s.sent.automation := by
  cases h with
  | work h => exact ⟨h.output id, h.automation config⟩
  | @boundary u _ m made before _ _ after =>
    have advance : SameBut _ u (u.advanceBoundary m) := advanceBoundary_frame u m
    have sent : (u.advanceBoundary m).sent = u.sent := advance .sent (by simp)
    have still : (u.advanceBoundary m).mode = .config := (u.advanceBoundary_mode m).trans (before.mode.trans config)
    have quiet : ¬ (Allow.boundary s).sends := fun run => by cases config.symm.trans run
    exact ⟨(after.output quiet).trans ((congrArg Sent.output sent).trans (before.output id)),
      (after.automation still).trans ((congrArg Sent.automation sent).trans (before.automation config))⟩
  | reset => exact ⟨rfl, rfl⟩
  | start _ _ before => exact ⟨before.output id, before.automation config⟩
  | stop _ _ before run => cases config.symm.trans (before.mode.symm.trans run)

end Sys2Proof.Machine

open Sys2Proof.Machine

/-- Settles O5: each counter is sound after each elementary change. -/
theorem stepKeepsCounterLaw : Obligations.StepKeepsCounterLaw := fun _ _ law h =>
  step_keeps (fun _ _ => id) Course.counterLaw law h

/-- Settles O6: each list keeps its size in each elementary change. -/
theorem stepKeepsSizeLaw : Obligations.StepKeepsSizeLaw := fun _ _ law h =>
  step_keeps (fun _ _ law => { law with }) Course.sizeLaw law h

/-- Settles O9: each elementary change of a service keeps its bands on the screen. -/
theorem stepKeepsBandLaw : Obligations.StepKeepsBandLaw := fun _ _ law h =>
  step_keeps (fun _ _ law => { law with }) Course.bandLaw law h

/-- Settles O10: each update of the package table keeps its ids distinct and its cues within the pool. -/
theorem stepKeepsPackageLaw : Obligations.StepKeepsPackageLaw := fun _ _ law h =>
  step_keeps (fun _ _ law => { law with }) Course.packageLaw law h

/-- Settles O11: a record or a cue joins a queue only where there is room. -/
theorem stepKeepsStoreLaw : Obligations.StepKeepsStoreLaw := fun _ _ law h =>
  step_keeps (fun _ _ law => { law with }) Course.storeLaw law h

/-- Settles O39: the reflow of what remains after a removal, and each elementary change of a cue's text. -/
theorem reflowNeverOverflows : Obligations.ReflowNeverOverflows :=
  ⟨fun b i rows _ _ => ⟨b.remove_words i, CueBody.remove_rowsFit rows i, b.remove_formed i⟩,
    fun _ _ law h => step_keeps (fun _ _ law => { law with }) Course.textLaw law h⟩

/-- Settles O12: the unit advances at a frame boundary and keeps its SMC in every other stretch of work. -/
theorem smcMovesOnlyAtBoundaries : Obligations.SmcMovesOnlyAtBoundaries :=
  fun _ _ _ h => (exec_course h).smc

/-- Settles O1: the definition of a step. -/
theorem stepRunsFrontCommand : Obligations.StepRunsFrontCommand :=
  ⟨fun s c rest h => by rw [step, h], fun s h => by rw [step, h]⟩

end

section
set_option Elab.async false
/-! SUPPORT. CONFIG is idle (spec/12 R181, R182): from the state that STOP or power-on reset leaves, no timer and no take finds
anything to do, no frame is taken, and no command but START does more than the supervisory unit and the parameters show. -/

namespace Sys2Proof.Machine

variable {c : Instr} {s t : State} {x : Per8 (List PortMsg)}

/-- The part rests in CONFIG, and has sent `x` on the contributor links. -/
structure State.Resting (x : Per8 (List PortMsg)) (s : State) : Prop where
  mode : s.mode = .config
  port : ∀ p, (s.port p).idle
  group : ∀ g, (s.group g).idle
  service : ∀ k, (s.service k).idle
  events : s.events = []
  packages : ∀ r ∈ s.packageRecords, r.state = .ready
  roundRobin : s.roundRobin = 3
  busyCount : s.busyCount = 0
  sent : s.sent.ports = x

theorem ConfigIdle.resting (law : ConfigIdle s) (config : s.mode = .config) : s.Resting s.sent.ports :=
  ⟨config, law.ports config, law.groups config, law.services config, law.events config, law.packages config,
    law.roundRobin config, law.busyCount config, rfl⟩

theorem State.Resting.configIdle (h : s.Resting x) : ConfigIdle s :=
  ⟨fun _ => h.port, fun _ => h.group, fun _ => h.service, fun _ => h.events, fun _ => h.packages,
    fun _ => h.roundRobin, fun _ => h.busyCount⟩

/-- Nothing is sent on the contributor links; and the part, if it stands in CONFIG, rests. -/
def State.Quiet (x : Per8 (List PortMsg)) (s : State) : Prop := s.sent.ports = x ∧ (s.mode = .config → s.Resting x)

theorem State.Resting.quiet (h : s.Resting x) : s.Quiet x := ⟨h.sent, fun _ => h⟩

/-- Rest speaks of nothing else. -/
theorem State.Resting.of_same (h : s.Resting x)
    (same : SameBut [.pending, .ref, .silenceTimeout, .schedMode, .budget, .poolRegion, .layout, .inserter, .counters,
      .alerts, .sup, .freeIndex] s t) : t.Resting x := by
  have ports : t.ports = s.ports := same .ports (by simp)
  have groups : t.groups = s.groups := same .groups (by simp)
  have services : t.services = s.services := same .services (by simp)
  have packages : t.packages = s.packages := same .packages (by simp)
  have sent : t.sent = s.sent := same .sent (by simp)
  exact {
    mode := (same .mode (by simp)).trans h.mode
    port := fun p => by unfold State.port; rw [ports]; exact h.port p
    group := fun g => by unfold State.group; rw [groups]; exact h.group g
    service := fun k => by unfold State.service; rw [services]; exact h.service k
    events := (same .events (by simp)).trans h.events
    packages := by unfold State.packageRecords; rw [packages]; exact h.packages
    roundRobin := (same .roundRobin (by simp)).trans h.roundRobin
    busyCount := (same .busyCount (by simp)).trans h.busyCount
    sent := by rw [sent]; exact h.sent }

theorem State.Resting.not_running (h : s.Resting x) : s.running = false := by simp [State.running, h.mode]

theorem State.Resting.not_receives (h : s.Resting x) (p : Port) : s.receives p = false := by
  simp [State.receives, h.not_running]

/-! ### Nothing expires and nothing is taken -/

theorem State.Resting.nextRecord (h : s.Resting x) (p : Port) : s.nextRecord p = none := by
  simp [State.nextRecord, h.not_running]

theorem State.Resting.expireEffects (h : s.Resting x) : s.expireEffects = s := by
  have none : s.events = [] := h.events
  cases s
  subst none
  rfl

theorem State.Resting.expireSwitches (h : s.Resting x) (k : Service) : s.expireSwitches k = s := by
  have none : (s.service k).switches = [] := congrArg ServiceState.switches (h.service k)
  have same : { s.service k with switches := [] } = s.service k := by rw [← none]
  simp [State.expireSwitches, none, same]

theorem State.Resting.runTask (h : s.Resting x) (y : BoundaryTask) : s.runTask y = s := by
  cases y with
  | refresh p =>
    have none : (s.port p).refresh = none := congrArg PortState.refresh (h.port p)
    simp [State.runTask, State.expireRefresh, State.refreshExpired, none]
  | silence p =>
    have none : (s.port p).silence = none := congrArg PortState.silence (h.port p)
    simp [State.runTask, State.expireSilence, State.silenceExpired, none]
  | yieldEnd g =>
    have none : (s.group g).yieldDeadline = none := congrArg GroupState.yieldDeadline (h.group g)
    simp [State.runTask, State.expireYield, State.yieldExpired, none]
  | cutAged g =>
    have none : (s.group g).cut = none := congrArg GroupState.cut (h.group g)
    simp [State.runTask, State.ageCut, none]
  | idle k =>
    have none : (s.service k).openCue = none := congrArg ServiceState.openCue (h.service k)
    simp [State.runTask, State.expireIdle, none]
  | effects => exact h.expireEffects
  | switches k => exact h.expireSwitches k
  | liveStartAged k =>
    have none : (s.service k).liveStart = none := congrArg ServiceState.liveStart (h.service k)
    simp [State.runTask, State.ageLiveStart, none]
  | lastChangeAged k =>
    have none : (s.service k).lastChange = none := congrArg ServiceState.lastChange (h.service k)
    simp [State.runTask, State.ageLastChange, none]
  | take p => simp [State.runTask, State.takeHead, h.nextRecord p]

theorem State.Resting.runTasks (h : s.Resting x) (l : List BoundaryTask) : l.foldl State.runTask s = s := by
  induction l with
  | nil => rfl
  | cons y l ih => rw [List.foldl_cons, h.runTask y, ih]

/-! ### A boundary in CONFIG advances the unit and samples the levels -/

theorem State.Resting.runSteps {y : Sending} (h : y.state.Resting x) {l : List BoundaryStep}
    (tasks : ∀ z ∈ l, ∃ w, z = .task w) : l.foldl Sending.runStep y = y := by
  induction l with
  | nil => rfl
  | cons z l ih =>
    obtain ⟨w, rfl⟩ := tasks z (by simp)
    have still : Sending.runStep y (.task w) = y := by
      cases y
      exact congrArg (Sending.mk · _) (h.runTask w)
    rw [List.foldl_cons, still, ih fun v hv => tasks v (by simp [hv])]

theorem State.Resting.advanceBoundary (h : s.Resting x) (m : Moment) : (s.advanceBoundary m).Resting x := by
  have advanced : (s.advanced m).Resting x := by
    refine { h with service := fun k => ?_, events := ?_ }
    · have none : (s.service k).switches = [] := congrArg ServiceState.switches (h.service k)
      have same : { s.service k with switches := [] } = s.service k := by rw [← none]
      rw [State.advanced_service, none, List.map_nil, same]
      exact h.service k
    · simp [State.advanced, State.armTimers, h.events]
  exact advanced.of_same ((raiseIf_frame _ _ _).mono (by simp))

theorem State.Resting.frameBoundary (h : s.Resting x) (m : Moment) (o : BoundaryOrder) :
    (s.frameBoundary m o).Resting x := by
  have finished : s.finishBoundary = s := h.runTasks _
  have advanced := h.advanceBoundary m
  have tasks := State.boundarySteps_tasks advanced.mode o
  unfold State.frameBoundary
  simp only [finished]
  rw [advanced.runSteps (y := ⟨s.advanceBoundary m, _⟩) fun z hz => tasks z (List.mem_of_mem_take hz)]
  have sampled : (s.advanceBoundary m).sampleLevels.Resting x :=
    advanced.of_same ((sampleLevels_frame _).mono (by simp))
  rw [sampled.runSteps (y := ⟨(s.advanceBoundary m).sampleLevels, _⟩) fun z hz => tasks z (List.mem_of_mem_drop hz)]
  exact sampled

theorem State.Resting.setRef (h : s.Resting x) (u : RefUnit) : State.Resting x { s with ref := u } := { h with }

theorem State.Resting.setAlert (h : s.Resting x) (y : Alert) (o : Option (Fin 8)) : (s.setAlert y o).Resting x :=
  h.of_same (by simp)

theorem State.Resting.raise (h : s.Resting x) (o : Occurrence) : (s.raise o).Resting x := h.of_same (by simp)

theorem State.Resting.pulse (h : s.Resting x) (m : Moment) (o : BoundaryOrder) : (s.pulse m o).Resting x := by
  unfold State.pulse
  split
  · unfold State.unlockedPulse
    dsimp only
    split <;> exact h.setRef _
  · unfold State.unlockedPulse
    dsimp only
    split <;> exact h.setRef _
  · cases good : s.ref.goodPulse m with
    | none =>
      simp only [State.qualifyingPulse, good]
      exact h.setRef _
    | some i =>
      simp only [State.qualifyingPulse, good]
      split
      · have locked := (h.setRef (s.ref.counted m i).lock).setAlert .refLocked none
        unfold State.lockedBoundary
        split
        · exact locked
        · exact locked.frameBoundary m o
      · exact h.setRef _
  · rw [State.lockedPulse_eq]
    split
    · exact h.setRef _
    · exact (h.setRef _).frameBoundary m o

/-! ### Frames in CONFIG -/

theorem State.Resting.frameFails (h : s.Resting x) (p : Port) : (s.frameFails p).Resting x :=
  h.of_same ((frameFails_frame s p).mono (by simp))

theorem State.Resting.receive (h : s.Resting x) (p : Port) (type : ContributorType) (act : State → Option State) :
    s.receive p type act = s := by simp [State.receive, h.not_receives p]

theorem State.Resting.receiveBytes (h : s.Resting x) (p : Port) (type : ContributorType) (payload : List Byte)
    (act : State → Option State) : (s.receiveBytes p type payload act).Resting x := by
  unfold State.receiveBytes
  split
  · exact h.frameFails p
  · rw [h.receive]; exact h

theorem State.Resting.foldl {α : Type} {f : State → α → State} (step : ∀ u y, u.Resting x → (f u y).Resting x)
    (h : s.Resting x) (l : List α) : (l.foldl f s).Resting x := by
  induction l generalizing s with
  | nil => exact h
  | cons y l ih => exact ih (step s y h)

theorem State.Resting.lineFailure (h : s.Resting x) (p : Port) (v : FrameVerdict) :
    (State.lineFailure p s v).Resting x := by
  cases v with
  | taken => exact h
  | fails => exact h.frameFails p
  | notTaken => simpa [State.lineFailure, h.not_receives p] using h

/-! ### Parameters and supervisory commands in CONFIG -/

theorem State.Resting.setPortPar (h : s.Resting x) (p : Port) (par : PortParams) : (s.setPortPar p par).Resting x := by
  refine { h with port := fun q => ?_ }
  rw [State.setPortPar, State.port_setPort]
  split
  · exact congrArg (fun y : PortState => { y with par := par }) (h.port p)
  · exact h.port q

theorem State.Resting.setServicePar (h : s.Resting x) (k : Service) (par : ServiceParams) :
    (s.setServicePar k par).Resting x := by
  refine { h with service := fun l => ?_ }
  rw [State.setServicePar, State.service_setService]
  split
  · exact congrArg (fun y : ServiceState => { y with par := par }) (h.service k)
  · exact h.service l

theorem State.Resting.setTimeout (h : s.Resting x) (g : Group) (n : Nat) :
    (s.setGroup g { s.group g with yieldTimeout := n }).Resting x := by
  refine { h with group := fun l => ?_ }
  rw [State.group_setGroup]
  split
  · exact congrArg (fun y : GroupState => { y with yieldTimeout := n }) (h.group g)
  · exact h.group l

theorem State.Resting.setFailover (h : s.Resting x) (g : Group) (b : Bool) :
    (s.setGroup g { s.group g with failover := b }).Resting x := by
  refine { h with group := fun l => ?_ }
  rw [State.group_setGroup]
  split
  · exact congrArg (fun y : GroupState => { y with failover := b }) (h.group g)
  · exact h.group l

theorem State.Resting.writeSchedMode (h : s.Resting x) (m : SchedMode) : (s.writeSchedMode m).Resting x := by
  unfold State.writeSchedMode
  split
  · exact h
  · refine { h with service := fun k => ?_, roundRobin := rfl }
    have get : State.service { s with
        schedMode := m, roundRobin := 3, services := s.services.map fun v => { v with deficit := 0 } } k =
        { s.service k with deficit := 0 } := Per4.get_map _ _ _
    rw [get]
    exact congrArg (fun y : ServiceState => { y with deficit := 0 }) (h.service k)

theorem State.Resting.writePool (h : s.Resting x) (r : Region) : (s.writePool r).Resting x := by
  unfold State.writePool
  split
  · exact h
  · refine { h with port := fun p => ?_, packages := fun y hy => ?_ }
    · have get : State.port { s.discardPackages with poolRegion := r } p = { s.port p with load := .idle } :=
        Per8.get_map _ _ _
      rw [get]
      exact congrArg (fun y : PortState => { y with load := .idle }) (h.port p)
    · have none : State.packageRecords { s.discardPackages with poolRegion := r } = [] := by
        simp [State.packageRecords, State.discardPackages]
      rw [none] at hy
      cases hy

theorem State.Resting.writeRegion (h : s.Resting x) (n : RegionName) (r : Region) : (s.writeRegion n r).Resting x := by
  cases n with
  | port p => exact h.setPortPar p _
  | service k => exact h.setServicePar k _
  | pool => exact h.writePool r

theorem State.Resting.write (h : s.Resting x) (y : Param) (m : Moment) (v : ParamValue) :
    (y.write m v s).Resting x := by
  unfold Param.write
  split
  · split
    · exact h
    · unfold State.writeRate
      split
      · exact h
      · exact h.setRef _
  · exact h.setRef _
  · exact { h with }
  · exact h.setPortPar _ _
  · exact h.setPortPar _ _
  · exact h.setPortPar _ _
  next p b =>
    have flowing : (s.port p).flow = .flowing := congrArg PortState.flow (h.port p)
    rw [State.writeFlowControl, if_neg (by simp [flowing])]
    exact h.setPortPar _ _
  · exact h.setTimeout _ _
  · exact h.setFailover _ _
  · exact h.setServicePar _ _
  next k g =>
    rw [State.writeRoute, if_neg (by simp [h.not_running])]
    exact h.setServicePar _ _
  · exact h.setServicePar _ _
  · exact h.writeSchedMode _
  · exact { h with }
  · exact h.writeRegion _ _
  · exact h.writeRegion _ _
  · exact h

theorem State.Resting.carrier (h : s.Resting x) : s.carrier.Resting x := by
  unfold State.carrier
  split
  · exact { h with }
  · exact h

theorem State.Quiet.setSup (h : s.Quiet x) (u : Supervisory) : State.Quiet x { s with sup := u } :=
  ⟨h.1, fun config => { h.2 config with }⟩

theorem State.Resting.command (h : s.Resting x) (type : Byte) {act : State → Reply}
    (acts : ∀ u : State, u.Resting x → (act u).state.Quiet x) : (s.command type act).Quiet x := by
  rw [State.command_eq]
  split
  · exact h.carrier.quiet.setSup _
  · exact (acts _ h.carrier).setSup _

theorem State.Resting.inRun (h : s.Resting x) (r : Reply) : (inMode s .run r).state.Quiet x := by
  have no : ¬ s.mode = .run := by simp [h.mode]
  rw [inMode, if_neg no]
  exact h.quiet

theorem State.Resting.withIndex (h : s.Resting x) {n limit : Nat} {act : Fin limit → Reply}
    (acts : ∀ i, (act i).state.Quiet x) : (withIndex s n limit act).state.Quiet x := by
  unfold Machine.withIndex
  split
  · exact acts _
  · exact h.quiet

theorem State.Resting.writeParam (h : s.Resting x) (row member index : Nat) (m : Moment) (v : ParamValue) :
    (writeParam row member index m v s).state.Quiet x := by
  unfold Machine.writeParam
  split
  · exact h.quiet
  · unfold writeChecked
    repeat' split
    · exact h.quiet
    · exact h.quiet
    · exact (h.write _ m v).quiet

theorem State.Resting.readParam (h : s.Resting x) (row member index : Nat) :
    (readParam row member index s).state.Quiet x := by
  unfold Machine.readParam
  split
  · exact h.quiet
  · exact h.quiet

theorem State.Resting.startPart (h : s.Resting x) : (Machine.startPart s).state.Quiet x := by
  unfold Machine.startPart
  split
  · exact h.quiet
  · exact ⟨h.sent, fun no => by cases no⟩

theorem State.Resting.startCommand (h : s.Resting x) : (inMode s .config (Machine.startPart s)).state.Quiet x := by
  rw [inMode, if_pos h.mode]
  exact h.startPart

theorem configIdle_reset : ConfigIdle State.reset where
  ports _ p := by rw [State.reset_port]; rfl
  groups _ g := by rw [State.reset_group]; rfl
  services _ k := by rw [State.reset_service]; rfl
  events _ := rfl
  packages _ _ no := by cases no
  roundRobin _ := rfl
  busyCount _ := rfl

/-! ### Every command in CONFIG -/

theorem exec_quiet (c : Instr) (h : s.Resting x) : ∃ t, exec c s = .next t ∧ t.Quiet x := by
  have tasked (y : BoundaryTask) : (s.runTask y).Quiet x := by rw [h.runTask y]; exact h.quiet
  have ignored (p : Port) (type : ContributorType) (act : State → Option State) : (s.receive p type act).Quiet x := by
    rw [h.receive]; exact h.quiet
  cases c with
  | powerOnReset =>
    have reset : s.afterReset.Resting s.sent.ports := ConfigIdle.resting (s := s.afterReset) { configIdle_reset with } rfl
    exact ⟨_, rfl, State.Resting.quiet (h.sent ▸ reset)⟩
  | referencePulse m o => exact ⟨_, rfl, (h.pulse m o).quiet⟩
  | missingPulse =>
    refine ⟨_, rfl, ?_⟩
    unfold State.missPulse
    split
    · exact (h.setRef _).quiet
    · exact h.quiet
  | lossOfReference o =>
    refine ⟨_, rfl, ?_⟩
    unfold State.loseReference
    split
    · exact ((((h.setRef _).setAlert _ _).raise _).frameBoundary _ o).quiet
    · exact h.quiet
  | flywheelBoundary o =>
    refine ⟨_, rfl, ?_⟩
    unfold State.flywheelTick
    split
    · exact h.quiet
    · exact ((h.setRef _).frameBoundary _ o).quiet
  | frameLabel ok l =>
    refine ⟨_, rfl, ?_⟩
    unfold State.takeLabel State.checkLabel
    dsimp only
    repeat' split
    · exact (h.setRef _).quiet
    · exact (h.setRef _).quiet
    · exact h.quiet
    · exact ((h.setRef _).raise _).quiet
    · exact h.quiet
  | contributorFrameFailure p raw =>
    exact ⟨_, rfl, (State.Resting.foldl (fun _ v hu => hu.lineFailure p v) h _).quiet⟩
  | word p y => exact ⟨_, rfl, (h.receiveBytes p _ y _).quiet⟩
  | retract p n => exact ⟨_, rfl, ignored p _ _⟩
  | stamp p y => exact ⟨_, rfl, (h.receiveBytes p _ y _).quiet⟩
  | take p => exact ⟨_, rfl, ignored p _ _⟩
  | release p => exact ⟨_, rfl, ignored p _ _⟩
  | pkgOpen p id n => exact ⟨_, rfl, ignored p _ _⟩
  | pkgCue p y => exact ⟨_, rfl, ignored p _ _⟩
  | pkgClose p id => exact ⟨_, rfl, ignored p _ _⟩
  | pkgDrop p id => exact ⟨_, rfl, ignored p _ _⟩
  | refreshDeadlineExpiry p => exact ⟨_, rfl, tasked (.refresh p)⟩
  | silenceDeadlineExpiry p => exact ⟨_, rfl, tasked (.silence p)⟩
  | wordRecordTake p => exact ⟨_, rfl, by simpa [State.takeWord, h.nextRecord p] using h.quiet⟩
  | retractRecordTake p => exact ⟨_, rfl, by simpa [State.takeRetract, h.nextRecord p] using h.quiet⟩
  | pkgOpenTake p => exact ⟨_, rfl, by simpa [State.takeOpen, h.nextRecord p] using h.quiet⟩
  | pkgCueTake p => exact ⟨_, rfl, by simpa [State.takeCue, h.nextRecord p] using h.quiet⟩
  | pkgCloseTake p => exact ⟨_, rfl, by simpa [State.takeClose, h.nextRecord p] using h.quiet⟩
  | pkgDropTake p => exact ⟨_, rfl, by simpa [State.takeDrop, h.nextRecord p] using h.quiet⟩
  | yieldDeadlineExpiry g => exact ⟨_, rfl, tasked (.yieldEnd g)⟩
  | cutTimeAged g => exact ⟨_, rfl, tasked (.cutAged g)⟩
  | idleDeadlineExpiry k => exact ⟨_, rfl, tasked (.idle k)⟩
  | clearDeadlineExpiry k =>
    have blank : (s.service k).display = .blank := congrArg ServiceState.display (h.service k)
    exact ⟨_, rfl, by simpa [State.expireClear, ServiceState.clearExpired, blank] using h.quiet⟩
  | outputStalled => exact ⟨_, rfl, (h.of_same ((checkStall_frame s).mono (by simp))).quiet⟩
  | ready => exact ⟨_, rfl, State.Resting.quiet { h with }⟩
  | busy => exact ⟨_, rfl, State.Resting.quiet { h with }⟩
  | outputFrameDropped => exact ⟨_, rfl, h.quiet⟩
  | event y => exact ⟨_, rfl, by simpa [State.takeEvent, h.not_running] using h.quiet⟩
  | automationFrameDropped => exact ⟨_, rfl, h.quiet⟩
  | effectTimeExpiry => exact ⟨_, rfl, tasked .effects⟩
  | switchTimeExpiry k => exact ⟨_, rfl, tasked (.switches k)⟩
  | liveStartAged k => exact ⟨_, rfl, tasked (.liveStartAged k)⟩
  | lastChangeAged k => exact ⟨_, rfl, tasked (.lastChangeAged k)⟩
  | transactionStart => exact ⟨_, rfl, State.Resting.quiet { h with }⟩
  | commandCheckFailed raw =>
    simp only [exec, execCommandCheckFailed]
    split
    · refine ⟨_, rfl, ?_⟩
      unfold checkReply
      split
      · exact h.command _ fun _ hu => hu.quiet
      · have advanced : State.Resting x { s with freeIndex := s.freeIndex + 1 } := { h with }
        exact advanced.command _ fun _ hu => hu.quiet
    · exact ⟨_, rfl, h.quiet⟩
  | unknownCommandType type =>
    simp only [exec, execUnknownCommandType]
    split
    · exact ⟨_, rfl, h.quiet⟩
    · exact ⟨_, rfl, h.command _ fun _ hu => hu.quiet⟩
  | parameterRead row member index => exact ⟨_, rfl, h.command _ fun _ hu => hu.readParam _ _ _⟩
  | parameterWrite m row member index v => exact ⟨_, rfl, h.command _ fun _ hu => hu.writeParam _ _ _ _ _⟩
  | frameRateWrite m v => exact ⟨_, rfl, h.command _ fun _ hu => hu.writeParam _ _ _ _ _⟩
  | configuredRouteWrite index v => exact ⟨_, rfl, h.command _ fun _ hu => hu.writeParam _ _ _ _ _⟩
  | flowControlWrite index v => exact ⟨_, rfl, h.command _ fun _ hu => hu.writeParam _ _ _ _ _⟩
  | schedulingModeWrite v => exact ⟨_, rfl, h.command _ fun _ hu => hu.writeParam _ _ _ _ _⟩
  | poolRegionWrite member v => exact ⟨_, rfl, h.command _ fun _ hu => hu.writeParam _ _ _ _ _⟩
  | start => exact ⟨_, rfl, h.command _ fun _ hu => hu.startCommand⟩
  | stop => exact ⟨_, rfl, h.command _ fun _ hu => hu.inRun _⟩
  | flushPort n => exact ⟨_, rfl, h.command _ fun _ hu => hu.inRun _⟩
  | flushService n => exact ⟨_, rfl, h.command _ fun _ hu => hu.inRun _⟩
  | counterSelect n f =>
    refine ⟨_, rfl, h.command _ fun u hu => hu.withIndex fun i => ?_⟩
    split
    · exact hu.quiet
    · exact State.Resting.quiet { hu with }
  | counterClear n => exact ⟨_, rfl, h.command _ fun _ hu => hu.withIndex fun _ => State.Resting.quiet { hu with }⟩
  | counterRead named => exact ⟨_, rfl, h.command _ fun _ hu => State.Resting.quiet { hu with }⟩
  | alertStatus => exact ⟨_, rfl, h.command _ fun _ hu => hu.quiet⟩
  | alertClear marks => exact ⟨_, rfl, h.command _ fun _ hu => State.Resting.quiet { hu with }⟩
  | alertEnable marks => exact ⟨_, rfl, h.command _ fun _ hu => State.Resting.quiet { hu with }⟩
  | referenceStatus => exact ⟨_, rfl, h.command _ fun _ hu => hu.quiet⟩
  | portStatus n => exact ⟨_, rfl, h.command _ fun _ hu => hu.withIndex fun _ => hu.quiet⟩
  | groupStatus n => exact ⟨_, rfl, h.command _ fun _ hu => hu.withIndex fun _ => hu.quiet⟩
  | serviceStatus n => exact ⟨_, rfl, h.command _ fun _ hu => hu.withIndex fun _ => hu.quiet⟩
  | layoutStatus => exact ⟨_, rfl, h.command _ fun _ hu => hu.quiet⟩
  | automationStatus => exact ⟨_, rfl, h.command _ fun _ hu => hu.quiet⟩
  | packageStatus => exact ⟨_, rfl, h.command _ fun _ hu => hu.quiet⟩
  | responseReady => exact ⟨_, rfl, State.Resting.quiet { h with }⟩

/-! ### What STOP and power-on reset leave -/

theorem packagesStopped_ready (l : List (Option PackageRecord)) : ∀ r ∈ (packagesStopped l).filterMap id, r.state = .ready := by
  intro r hr
  obtain ⟨o, ho, e⟩ := List.mem_filterMap.mp hr
  obtain ⟨o', -, rfl⟩ := List.mem_map.mp ho
  rcases o' with _ | r'
  · cases e
  · by_cases ready : r'.state = .ready
    · simp only [ready, if_true, id_eq] at e
      exact Option.some.inj e ▸ ready
    · simp [ready] at e

theorem State.leaveRun_idle (s : State) : ConfigIdle s.leaveRun where
  ports _ p := by rw [State.leaveRun_port]; rfl
  groups _ g := by rw [State.leaveRun_group]; rfl
  services _ k := by rw [State.leaveRun_service]; rfl
  events _ := rfl
  packages _ := packagesStopped_ready s.packages
  roundRobin _ := rfl
  busyCount _ := rfl

theorem ConfigIdle.of_run (run : s.mode = .run) : ConfigIdle s := by
  constructor <;> exact fun config => by cases run.symm.trans config

theorem Course.configIdle_of_run (h : Course c s t) (run : s.mode = .run) : ConfigIdle t := by
  cases h with
  | work h => exact .of_run (h.mode.trans run)
  | boundary m _ before _ _ after =>
    exact .of_run (after.mode.trans ((State.advanceBoundary_mode _ m).trans (before.mode.trans run)))
  | reset => exact { configIdle_reset with }
  | start _ _ _ config => exact .of_run rfl
  | @stop u _ _ _ _ => exact { u.leaveRun_idle with }

theorem exec_configIdle (law : ConfigIdle s) (h : exec c s = .next t) : ConfigIdle t := by
  cases mode : s.mode
  · obtain ⟨u, next_, quiet⟩ := exec_quiet c (law.resting mode)
    cases h.symm.trans next_
    cases after : t.mode
    · exact (quiet.2 after).configIdle
    · exact .of_run after
  · exact (exec_course h).configIdle_of_run mode

end Sys2Proof.Machine

open Sys2Proof.Machine

/-- Settles O8: in CONFIG a command finds nothing to do beyond the parameters, and the course of a command shows which commands
move the mode. -/
theorem stepKeepsConfigIdle : Obligations.StepKeepsConfigIdle := by
  refine ⟨fun s t law h => ?_, fun c s t h => (exec_course h).mode⟩
  rcases step_next h with rfl | ⟨c, l, next_⟩
  · exact law
  · exact exec_configIdle (s := { s with pending := l }) { law with } next_

/-- Settles O13: outside RUN nothing reaches the output and automation links, and the resting part sends nothing to a port. -/
theorem configSendsNothing : Obligations.ConfigSendsNothing := by
  intro c s t config h
  obtain ⟨output, automation⟩ := (exec_course h).silent config
  refine ⟨output, automation, fun law => ?_⟩
  obtain ⟨u, next_, quiet⟩ := exec_quiet c (law.resting config)
  cases h.symm.trans next_
  exact quiet.1

end

section
set_option Elab.async false
/-! SUPPORT. The relay law (spec/03 R38): the operations that move links, group by group; every other operation leaves what the
law reads as it stands. -/

namespace Sys2Proof.Machine

variable {c : Instr} {s t : State}

/-! ### The law group by group and port by port -/

/-- The record of a group agrees with the links of its members. -/
structure GroupFits (s : State) (g : Group) : Prop where
  onAir : ∀ p, (s.group g).onAir = some p ↔ (s.isMember p g ∧ (s.port p).link = .onAir)
  taking : ∀ p, (s.group g).taking = some p ↔ (s.isMember p g ∧ (s.port p).link = .taking)
  yielding : ∀ p, (s.group g).yielding = some p ↔ (s.isMember p g ∧ (s.port p).link = .yielding)
  together : (s.group g).taking.isSome = (s.group g).yielding.isSome ∧
    (s.group g).yielding.isSome = (s.group g).yieldDeadline.isSome
  exclusive : (s.group g).taking.isSome = true → (s.group g).onAir = none

/-- The port is in a state that its group's record names. -/
def LinkState.engaged : LinkState → Bool
  | .onAir => true
  | .taking => true
  | .yielding => true
  | _ => false

theorem LinkState.engaged_iff (l : LinkState) : l.engaged = true ↔ l = .onAir ∨ l = .taking ∨ l = .yielding := by
  cases l <;> simp [LinkState.engaged]

/-- What the law asks of one port. -/
structure PortFits (s : State) (p : Port) : Prop where
  grouped : (s.port p).link.engaged = true → ∃ g, s.isMember p g
  samples : (s.port p).link.qualified = true → 4 ≤ (s.port p).window.length
  config : s.mode = .config → (s.port p).link = .offline

theorem relayLaw_iff (s : State) : RelayLaw s ↔ (∀ g, GroupFits s g) ∧ ∀ p, PortFits s p :=
  ⟨fun h => ⟨fun g => ⟨fun p => h.onAir p g, fun p => h.taking p g, fun p => h.yielding p g, h.together g, h.exclusive g⟩,
      fun p => ⟨fun e => h.grouped p ((LinkState.engaged_iff _).mp e), h.samples p, fun m => h.config m p⟩⟩,
    fun ⟨g, p⟩ => ⟨fun q k => (g k).onAir q, fun q k => (g k).taking q, fun q k => (g k).yielding q,
      fun q e => (p q).grouped ((LinkState.engaged_iff _).mpr e), fun k => (g k).together, fun k => (g k).exclusive,
      fun q => (p q).samples, fun m q => (p q).config m⟩⟩

theorem RelayLaw.fits (law : RelayLaw s) (g : Group) : GroupFits s g := ((relayLaw_iff s).mp law).1 g

/-- Two states hold the same roles in a group. -/
def SameRoles (x y : GroupState) : Prop :=
  y.onAir = x.onAir ∧ y.taking = x.taking ∧ y.yielding = x.yielding ∧ y.yieldDeadline = x.yieldDeadline

theorem isMember_unique {p : Port} {g h : Group} (a : s.isMember p g) (b : s.isMember p h) : g = h :=
  Option.some.inj (a.2.symm.trans b.2)

/-- A group fits as long as its roles stand and its members' links keep whether and how they are engaged. -/
theorem GroupFits.congr {g : Group} (h : GroupFits s g) (roles : SameRoles (s.group g) (t.group g))
    (members : ∀ p, t.isMember p g ↔ s.isMember p g)
    (links : ∀ p, s.isMember p g → (t.port p).link = (s.port p).link ∨
      ((t.port p).link.engaged = false ∧ (s.port p).link.engaged = false)) : GroupFits t g := by
  obtain ⟨onAir, taking, yielding, deadline⟩ := roles
  have same (l : LinkState) (engaged : l.engaged = true) (p : Port) :
      (t.isMember p g ∧ (t.port p).link = l) ↔ (s.isMember p g ∧ (s.port p).link = l) := by
    rw [members p]
    refine and_congr_right fun mem => ?_
    rcases links p mem with e | ⟨et, es⟩
    · rw [e]
    · constructor <;> rintro rfl <;> simp_all
  exact {
    onAir := fun p => by rw [onAir, same .onAir rfl]; exact h.onAir p
    taking := fun p => by rw [taking, same .taking rfl]; exact h.taking p
    yielding := fun p => by rw [yielding, same .yielding rfl]; exact h.yielding p
    together := by rw [taking, yielding, deadline]; exact h.together
    exclusive := by rw [taking, onAir]; exact h.exclusive }

/-- What the law reads stands: the mode, and each port's link, kind, group and window, and each group's roles. -/
structure SameRelay (s t : State) : Prop where
  mode : t.mode = s.mode
  port : ∀ p, (t.port p).link = (s.port p).link ∧ (t.port p).par.kind = (s.port p).par.kind ∧
    (t.port p).par.group = (s.port p).par.group ∧ (t.port p).window = (s.port p).window
  group : ∀ g, SameRoles (s.group g) (t.group g)

theorem SameRelay.members (h : SameRelay s t) (p : Port) (g : Group) : t.isMember p g ↔ s.isMember p g := by
  obtain ⟨-, kind, group, -⟩ := h.port p
  rw [State.isMember, State.isMember, kind, group]

theorem RelayLaw.of_same (law : RelayLaw s) (same : SameRelay s t) : RelayLaw t := by
  obtain ⟨groups, ports⟩ := (relayLaw_iff s).mp law
  refine (relayLaw_iff t).mpr
    ⟨fun g => (groups g).congr (same.group g) (fun p => same.members p g) fun p _ => Or.inl (same.port p).1, fun p => ?_⟩
  obtain ⟨link, kind, group, window⟩ := same.port p
  refine ⟨fun e => ?_, fun q => ?_, fun config => link.trans ((ports p).config (same.mode.symm.trans config))⟩
  · obtain ⟨g, mem⟩ := (ports p).grouped (link ▸ e)
    exact ⟨g, (same.members p g).mpr mem⟩
  · rw [window]; exact (ports p).samples (link ▸ q)

/-! ### Operations that move no link -/

/-- Everything but the links and the groups. -/
def Allow.outer : Allow := ⟨True, False, True, fun _ => True, True⟩

theorem SameRelay.refl (s : State) : SameRelay s s :=
  ⟨rfl, fun _ => ⟨rfl, rfl, rfl, rfl⟩, fun _ => ⟨rfl, rfl, rfl, rfl⟩⟩

theorem Changes.sameRelay {a : Allow} (still : ¬ a.links) (h : Changes a s t) : SameRelay s t := by
  induction h with
  | refl => exact SameRelay.refl s
  | tail _ last ih =>
    refine ⟨last.mode.trans ih.mode, fun p => ?_, fun g => ?_⟩
    · obtain ⟨l, k, g, w⟩ := (last.ports_step p).links.resolve_left still
      obtain ⟨l', k', g', w'⟩ := ih.port p
      exact ⟨l.trans l', k.trans k', g.trans g', w.trans w'⟩
    · obtain ⟨o, k, y, d⟩ := (last.groups_step g).links.resolve_left still
      obtain ⟨o', k', y', d'⟩ := ih.group g
      exact ⟨o.trans o', k.trans k', y.trans y', d.trans d'⟩

theorem RelayLaw.changes (law : RelayLaw s) (h : Changes Allow.outer s t) : RelayLaw t :=
  law.of_same (h.sameRelay id)

/-! ### A link entered -/

theorem State.enterLink_port (s : State) (p q : Port) (l : LinkState) :
    (s.enterLink p l).port q = if q = p then { s.port p with link := l } else s.port q := by
  simp [State.enterLink]

@[simp] theorem State.enterLink_link (s : State) (p q : Port) (l : LinkState) :
    ((s.enterLink p l).port q).link = if q = p then l else (s.port q).link := by
  rw [State.enterLink_port]
  split <;> rfl

@[simp] theorem State.enterLink_par (s : State) (p q : Port) (l : LinkState) :
    ((s.enterLink p l).port q).par = (s.port q).par := by
  rw [State.enterLink_port]
  split
  next e => rw [e]
  next => rfl

@[simp] theorem State.enterLink_window (s : State) (p q : Port) (l : LinkState) :
    ((s.enterLink p l).port q).window = (s.port q).window := by
  rw [State.enterLink_port]
  split
  next e => rw [e]
  next => rfl

@[simp] theorem State.enterLink_group (s : State) (p : Port) (l : LinkState) (g : Group) :
    (s.enterLink p l).group g = s.group g := rfl

@[simp] theorem State.enterLink_mode (s : State) (p : Port) (l : LinkState) : (s.enterLink p l).mode = s.mode := rfl

/-- A port that is not engaged takes up another state that is not engaged. -/
theorem RelayLaw.of_port (law : RelayLaw s) {p : Port} (mode : t.mode = s.mode)
    (others : ∀ q, q ≠ p → (t.port q).link = (s.port q).link ∧ (t.port q).window = (s.port q).window)
    (par : ∀ q, (t.port q).par.kind = (s.port q).par.kind ∧ (t.port q).par.group = (s.port q).par.group)
    (groups : ∀ g, SameRoles (s.group g) (t.group g)) (before : (s.port p).link.engaged = false)
    (after : (t.port p).link.engaged = false)
    (samples : (t.port p).link.qualified = true → 4 ≤ (t.port p).window.length)
    (config : s.mode = .config → (t.port p).link = .offline) : RelayLaw t := by
  obtain ⟨gs, ps⟩ := (relayLaw_iff s).mp law
  have members (q : Port) (g : Group) : t.isMember q g ↔ s.isMember q g := by
    rw [State.isMember, State.isMember, (par q).1, (par q).2]
  refine (relayLaw_iff t).mpr ⟨fun g => (gs g).congr (groups g) (fun q => members q g) fun q _ => ?_, fun q => ?_⟩
  · by_cases e : q = p
    · exact Or.inr (e ▸ ⟨after, before⟩)
    · exact Or.inl (others q e).1
  · by_cases e : q = p
    · subst e
      exact ⟨fun no => (by rw [after] at no; cases no), samples, fun m => config (mode.symm.trans m)⟩
    · obtain ⟨link, window⟩ := others q e
      refine ⟨fun eng => ?_, fun qual => ?_, fun m => link.trans ((ps q).config (mode.symm.trans m))⟩
      · obtain ⟨g, mem⟩ := (ps q).grouped (link ▸ eng)
        exact ⟨g, (members q g).mpr mem⟩
      · rw [window]; exact (ps q).samples (link ▸ qual)

/-- The members of one group take up other states, and its record follows. -/
theorem RelayLaw.of_group (law : RelayLaw s) {g : Group} (run : s.mode = .run) (mode : t.mode = s.mode)
    (par : ∀ q, (t.port q).par.kind = (s.port q).par.kind ∧ (t.port q).par.group = (s.port q).par.group)
    (groups : ∀ h, h ≠ g → SameRoles (s.group h) (t.group h))
    (links : ∀ q, (t.port q).link = (s.port q).link ∨ s.isMember q g)
    (samples : ∀ q, (t.port q).link.qualified = true → 4 ≤ (t.port q).window.length)
    (fits : GroupFits t g) : RelayLaw t := by
  obtain ⟨gs, ps⟩ := (relayLaw_iff s).mp law
  have members (q : Port) (h : Group) : t.isMember q h ↔ s.isMember q h := by
    rw [State.isMember, State.isMember, (par q).1, (par q).2]
  refine (relayLaw_iff t).mpr ⟨fun h => ?_, fun q => ⟨fun eng => ?_, samples q, fun no => ?_⟩⟩
  · by_cases e : h = g
    · exact e ▸ fits
    · refine (gs h).congr (groups h e) (fun q => members q h) fun q mem => Or.inl ?_
      exact (links q).resolve_right fun other => e (isMember_unique mem other)
  · rcases links q with same | mem
    · obtain ⟨h, mem⟩ := (ps q).grouped (same ▸ eng)
      exact ⟨h, (members q h).mpr mem⟩
    · exact ⟨g, (members q g).mpr mem⟩
  · cases run.symm.trans (mode.symm.trans no)

/-! ### TAKE, RELEASE and the ends of a handover -/

theorem RelayLaw.run_of_engaged (law : RelayLaw s) {p : Port} (h : (s.port p).link ≠ .offline) : s.mode = .run := by
  cases mode : s.mode
  · exact absurd (law.config mode p) h
  · rfl

theorem RelayLaw.run_of_taking (law : RelayLaw s) {g : Group} {p : Port} (h : (s.group g).taking = some p) :
    s.mode = .run := law.run_of_engaged (p := p) (by simp [((law.taking p g).mp h).2])

/-- What `t` makes of `s` for the law: the group `g` holds the roles of `x`, and each port the link that `f` names. A window
stands, but for a port gone OFFLINE. -/
structure Moves (s t : State) (g : Group) (x : GroupState) (f : Port → LinkState) : Prop where
  mode : t.mode = s.mode
  par : ∀ q, (t.port q).par.kind = (s.port q).par.kind ∧ (t.port q).par.group = (s.port q).par.group
  link : ∀ q, (t.port q).link = f q
  window : ∀ q, (t.port q).window = (s.port q).window ∨ f q = .offline
  self : SameRoles x (t.group g)
  others : ∀ h, h ≠ g → SameRoles (s.group h) (t.group h)

theorem Moves.setGroup (s : State) (g : Group) (x : GroupState) :
    Moves s (s.setGroup g x) g x fun q => (s.port q).link where
  mode := rfl
  par _ := ⟨rfl, rfl⟩
  link _ := rfl
  window _ := Or.inl rfl
  self := by rw [State.group_setGroup, if_pos rfl]; exact ⟨rfl, rfl, rfl, rfl⟩
  others h ne := by rw [State.group_setGroup, if_neg ne]; exact ⟨rfl, rfl, rfl, rfl⟩

theorem Moves.same {u : State} {g : Group} {x : GroupState} {f : Port → LinkState} (m : Moves s t g x f)
    (h : SameRelay t u) : Moves s u g x f where
  mode := h.mode.trans m.mode
  par q := ⟨(h.port q).2.1.trans (m.par q).1, (h.port q).2.2.1.trans (m.par q).2⟩
  link q := (h.port q).1.trans (m.link q)
  window q := (m.window q).imp_left (h.port q).2.2.2.trans
  self :=
    let ⟨o, k, y, d⟩ := h.group g
    let ⟨o', k', y', d'⟩ := m.self
    ⟨o.trans o', k.trans k', y.trans y', d.trans d'⟩
  others j ne :=
    let ⟨o, k, y, d⟩ := h.group j
    let ⟨o', k', y', d'⟩ := m.others j ne
    ⟨o.trans o', k.trans k', y.trans y', d.trans d'⟩

theorem Moves.changes {u : State} {g : Group} {x : GroupState} {f : Port → LinkState} (m : Moves s t g x f)
    (h : Changes Allow.outer t u) : Moves s u g x f := m.same (h.sameRelay id)

theorem Moves.enterLink {g : Group} {x : GroupState} {f : Port → LinkState} (m : Moves s t g x f) (p : Port)
    {l : LinkState} (up : f p = .offline → l = .offline) :
    Moves s (t.enterLink p l) g x fun q => if q = p then l else f q where
  mode := m.mode
  par q := by rw [State.enterLink_par]; exact m.par q
  link q := by rw [State.enterLink_link, m.link]
  window q := by
    rw [State.enterLink_window]
    have := m.window q
    grind
  self := m.self
  others := m.others

theorem Moves.lost {g : Group} {x : GroupState} {f : Port → LinkState} (m : Moves s t g x f) (p : Port) :
    Moves s (t.setPort p (t.port p).lost) g x fun q => if q = p then .offline else f q where
  mode := m.mode
  par q := by
    rw [State.port_setPort]
    split
    next e => exact e ▸ m.par p
    next => exact m.par q
  link q := by
    rw [State.port_setPort]
    split
    · rfl
    · exact m.link q
  window q := by
    rw [State.port_setPort]
    split
    · exact Or.inr rfl
    · exact m.window q
  self := m.self
  others := m.others

theorem Moves.granted {g : Group} {x : GroupState} {f : Port → LinkState} (m : Moves s t g x f) (p : Port) (c : Smc) :
    Moves s (t.answerGranted p c) g x f := m.changes (.sendPort .refl p _)

/-- The law holds after a move whose roles and links agree. -/
theorem RelayLaw.moves (law : RelayLaw s) {g : Group} {x : GroupState} {f : Port → LinkState} (m : Moves s t g x f)
    (run : s.mode = .run) (links : ∀ q, f q = (s.port q).link ∨ s.isMember q g)
    (qualified : ∀ q, (f q).qualified = true → (s.port q).link.qualified = true)
    (onAir : ∀ q, x.onAir = some q ↔ (s.isMember q g ∧ f q = .onAir))
    (taking : ∀ q, x.taking = some q ↔ (s.isMember q g ∧ f q = .taking))
    (yielding : ∀ q, x.yielding = some q ↔ (s.isMember q g ∧ f q = .yielding))
    (together : x.taking.isSome = x.yielding.isSome ∧ x.yielding.isSome = x.yieldDeadline.isSome)
    (exclusive : x.taking.isSome = true → x.onAir = none) : RelayLaw t := by
  obtain ⟨o, k, y, d⟩ := m.self
  have members (q : Port) : t.isMember q g ↔ s.isMember q g := by
    rw [State.isMember, State.isMember, (m.par q).1, (m.par q).2]
  refine law.of_group run m.mode m.par m.others (fun q => m.link q ▸ links q) (fun q qual => ?_)
    ⟨fun q => ?_, fun q => ?_, fun q => ?_, ?_, ?_⟩
  · rw [m.link] at qual
    rcases m.window q with same | off
    · rw [same]; exact law.samples q (qualified q qual)
    · rw [off] at qual; cases qual
  · rw [o, members, m.link]; exact onAir q
  · rw [k, members, m.link]; exact taking q
  · rw [y, members, m.link]; exact yielding q
  · rw [k, y, d]; exact together
  · rw [k, o]; exact exclusive

/-- A TAKE in an idle group (R40). -/
theorem RelayLaw.grantIdle (law : RelayLaw s) {p : Port} {g : Group} (mem : s.isMember p g)
    (ready : (s.port p).link = .ready) (idle : (s.group g).taking = none) (empty : (s.group g).onAir = none) :
    RelayLaw (s.grantIdle p g) := by
  have fits := law.fits g
  have m := ((Moves.setGroup s g { s.group g with onAir := some p, cut := some s.now, grant := some s.now }).granted p
    s.now).enterLink p (l := .onAir) (by simp [ready])
  refine law.moves m (law.run_of_engaged (p := p) (by simp [ready])) (fun q => ?_) (fun q => ?_) (fun q => ?_) (fun q => ?_)
    (fun q => ?_) ?_ ?_
  · grind
  · grind [LinkState.qualified]
  · have := fits.onAir q; grind
  · have := fits.taking q; grind
  · have := fits.yielding q; grind
  · exact fits.together
  · grind

/-- A TAKE against an on-air port: a handover begins (R41). -/
theorem RelayLaw.beginHandover (law : RelayLaw s) {p q : Port} {g : Group} (mem : s.isMember p g)
    (ready : (s.port p).link = .ready) (idle : (s.group g).taking = none) (air : (s.group g).onAir = some q) :
    RelayLaw (s.beginHandover p q g) := by
  have fits := law.fits g
  obtain ⟨memq, linkq⟩ := (fits.onAir q).mp air
  have noYielder : (s.group g).yielding = none := by simpa [idle] using fits.together.1
  have m := (((Moves.setGroup s g
    { s.group g with
      onAir := none, taking := some p, yielding := some q, cut := some s.now, grant := some s.now
      yieldDeadline := some (plus s.now (s.group g).yieldTimeout) }).granted p s.now).enterLink p (l := .taking)
        (by simp [ready])).enterLink q (l := .yielding) (by grind)
  refine law.moves m (law.run_of_engaged (p := p) (by simp [ready])) (fun q => ?_) (fun q => ?_) (fun q => ?_) (fun q => ?_)
    (fun q => ?_) ?_ ?_
  · grind
  · grind [LinkState.qualified]
  · have := fits.onAir q; grind
  · have := fits.taking q; grind
  · have := fits.yielding q; grind
  · simp
  · simp

theorem State.takeResult_granted {p : Port} (h : s.takeResult p = .granted) :
    ∃ g, (s.port p).par.group = some g ∧ (s.port p).link = .ready ∧ (s.group g).taking = none := by
  unfold State.takeResult at h
  split at h
  · cases h
  next g group =>
    split at h
    · cases h
    · cases h
    · cases h
    next ready =>
      split at h
      · cases h
      next free => exact ⟨g, group, ready, by simpa using free⟩
    · cases h

theorem RelayLaw.decideTake (law : RelayLaw s) {p : Port} (writer : (s.port p).par.kind = .writer) :
    RelayLaw (s.decideTake p) := by
  unfold State.decideTake
  split
  next g granted group =>
    obtain ⟨g', group', ready, free⟩ := State.takeResult_granted granted
    obtain rfl : g' = g := Option.some.inj (group'.symm.trans group)
    split
    next empty => exact law.grantIdle ⟨writer, group⟩ ready free empty
    next q air => exact law.beginHandover ⟨writer, group⟩ ready free air
  next => exact law.changes (.sendPort .refl p _)

/-- The end of a handover moves the links of its two ports (R45). -/
theorem RelayLaw.completeHandover (law : RelayLaw s) (g : Group) : RelayLaw (s.completeHandover g false) := by
  unfold State.completeHandover
  split
  next p q taking yielding =>
    have fits := law.fits g
    obtain ⟨memp, linkp⟩ := (fits.taking p).mp taking
    obtain ⟨memq, linkq⟩ := (fits.yielding q).mp yielding
    have m := ((((Moves.setGroup s g
      { s.group g with onAir := some p, taking := none, yielding := none, yieldDeadline := none }).enterLink p (l := .onAir)
        (by simp [linkp])).enterLink q (l := .ready)
      (by grind)).changes (.clearHistory .refl q)).changes (.raise .refl (portEvent .handover p))
    refine law.moves m (law.run_of_taking taking) (fun q => ?_) (fun q => ?_) (fun q => ?_) (fun q => ?_)
      (fun q => ?_) ?_ ?_
    · grind
    · grind [LinkState.qualified]
    · have := fits.onAir q; have := fits.exclusive; grind
    · have := fits.taking q; grind
    · have := fits.yielding q; grind
    · simp
    · simp
  · exact law

/-- A RELEASE from the on-air port (R48). -/
theorem RelayLaw.releaseOnAir (law : RelayLaw s) {p : Port} {g : Group} (air : (s.group g).onAir = some p) :
    RelayLaw (s.releaseOnAir p g) := by
  have fits := law.fits g
  obtain ⟨mem, link⟩ := (fits.onAir p).mp air
  have m := (((Moves.setGroup s g { s.group g with onAir := none }).changes (.closeRouted .refl g)).changes
    (.sendPort .refl p (.releaseAnswer true))).enterLink p (l := .ready) (by simp [link])
  refine law.moves m (law.run_of_engaged (p := p) (by simp [link])) (fun q => ?_) (fun q => ?_) (fun q => ?_) (fun q => ?_)
    (fun q => ?_) ?_ ?_
  · grind
  · grind [LinkState.qualified]
  · have := fits.onAir q; grind
  · have := fits.taking q; grind
  · have := fits.yielding q; grind
  · exact fits.together
  · simp

theorem RelayLaw.onAir_of_link (law : RelayLaw s) {p : Port} {g : Group} (link : (s.port p).link = .onAir)
    (group : (s.port p).par.group = some g) : (s.group g).onAir = some p := by
  obtain ⟨h, mem⟩ := law.grouped p (Or.inl link)
  obtain rfl : h = g := Option.some.inj (mem.2.symm.trans group)
  exact (law.onAir p h).mpr ⟨mem, link⟩

theorem RelayLaw.taking_of_link (law : RelayLaw s) {p : Port} {g : Group} (link : (s.port p).link = .taking)
    (group : (s.port p).par.group = some g) : (s.group g).taking = some p := by
  obtain ⟨h, mem⟩ := law.grouped p (Or.inr (Or.inl link))
  obtain rfl : h = g := Option.some.inj (mem.2.symm.trans group)
  exact (law.taking p h).mpr ⟨mem, link⟩

theorem RelayLaw.yielding_of_link (law : RelayLaw s) {p : Port} {g : Group} (link : (s.port p).link = .yielding)
    (group : (s.port p).par.group = some g) : (s.group g).yielding = some p := by
  obtain ⟨h, mem⟩ := law.grouped p (Or.inr (Or.inr link))
  obtain rfl : h = g := Option.some.inj (mem.2.symm.trans group)
  exact (law.yielding p h).mpr ⟨mem, link⟩

theorem RelayLaw.decideRelease (law : RelayLaw s) (p : Port) : RelayLaw (s.decideRelease p) := by
  unfold State.decideRelease
  split
  next g link group => exact law.releaseOnAir (law.onAir_of_link link group)
  next g _ _ => exact (law.changes (.sendPort .refl p (.releaseAnswer true))).completeHandover g
  next => exact law.changes (.sendPort .refl p _)

/-! ### Loss of a link -/

/-- The port whose link is lost goes OFFLINE after what the relay controller did. -/
def State.dropped (s : State) (p : Port) : State := s.setPort p (s.port p).lost

/-- Loss of a port that its group's record does not name. -/
theorem RelayLaw.dropped (law : RelayLaw s) {p : Port} (free : (s.port p).link.engaged = false) :
    RelayLaw (s.dropped p) := by
  have self : (s.dropped p).port p = (s.port p).lost := by simp [State.dropped]
  have others (q : Port) (ne : q ≠ p) : (s.dropped p).port q = s.port q := by simp [State.dropped, ne]
  refine law.of_port (p := p) rfl (fun q ne => by rw [others q ne]; exact ⟨rfl, rfl⟩) (fun q => ?_)
    (fun _ => ⟨rfl, rfl, rfl, rfl⟩) free (by rw [self]; rfl) (by rw [self]; exact fun no => by cases no)
    (by rw [self]; exact fun _ => rfl)
  by_cases e : q = p
  · rw [e, self]; exact ⟨rfl, rfl⟩
  · rw [others q e]; exact ⟨rfl, rfl⟩

/-- Loss of the taking port (R49). -/
theorem RelayLaw.abortHandover_dropped (law : RelayLaw s) {p : Port} {g : Group} (taking : (s.group g).taking = some p) :
    RelayLaw ((s.abortHandover g).dropped p) := by
  have fits := law.fits g
  obtain ⟨memp, linkp⟩ := (fits.taking p).mp taking
  obtain ⟨q, yielding⟩ := Option.isSome_iff_exists.mp ((fits.together.1.symm.trans (by rw [taking]; rfl)) : _ = true)
  obtain ⟨memq, linkq⟩ := (fits.yielding q).mp yielding
  simp only [State.abortHandover, yielding]
  have m := ((Moves.setGroup s g
    { s.group g with
      onAir := some q, taking := none, yielding := none, yieldDeadline := none, cut := none }).enterLink q (l := .onAir)
        (by simp [linkq])).lost p
  refine law.moves m (law.run_of_taking taking) (fun q => ?_) (fun q => ?_) (fun q => ?_) (fun q => ?_)
    (fun q => ?_) ?_ ?_
  · grind
  · grind [LinkState.qualified]
  · have := fits.onAir q; have := fits.exclusive; grind
  · have := fits.taking q; grind
  · have := fits.yielding q; grind
  · simp
  · simp

/-- Loss of the yielding port (R50). -/
theorem RelayLaw.completeHandover_dropped (law : RelayLaw s) {q : Port} {g : Group}
    (yielding : (s.group g).yielding = some q) : RelayLaw ((s.completeHandover g true).dropped q) := by
  have fits := law.fits g
  obtain ⟨memq, linkq⟩ := (fits.yielding q).mp yielding
  obtain ⟨p, taking⟩ := Option.isSome_iff_exists.mp ((fits.together.1.trans (by rw [yielding]; rfl)) : _ = true)
  obtain ⟨memp, linkp⟩ := (fits.taking p).mp taking
  simp only [State.completeHandover, taking, yielding, if_true]
  have m := ((((Moves.setGroup s g
    { s.group g with onAir := some p, taking := none, yielding := none, yieldDeadline := none }).enterLink p (l := .onAir)
      (by simp [linkp])).changes
    (.clearHistory .refl q)).changes (.raise .refl (portEvent .handover p))).lost q
  refine law.moves m (law.run_of_taking taking) (fun q => ?_) (fun q => ?_) (fun q => ?_) (fun q => ?_)
    (fun q => ?_) ?_ ?_
  · grind
  · grind [LinkState.qualified]
  · have := fits.onAir q; have := fits.exclusive; grind
  · have := fits.taking q; grind
  · have := fits.yielding q; grind
  · simp
  · simp

theorem State.mem_members {g : Group} {p : Port} : p ∈ s.members g ↔ s.isMember p g := by
  simp [State.members, mem_allPorts, State.isMember]

theorem State.readyMember_spec {g : Group} {p : Port} (h : s.readyMember g = some p) :
    s.isMember p g ∧ (s.port p).link = .ready :=
  ⟨State.mem_members.mp (List.mem_of_find?_eq_some h), by simpa using List.find?_some h⟩

/-- Loss of the on-air port, with and without failover (R51). -/
theorem RelayLaw.loseOnAir_dropped (law : RelayLaw s) {p : Port} {g : Group} (air : (s.group g).onAir = some p)
    (heard : Option Smc) : RelayLaw ((s.loseOnAir g heard).dropped p) := by
  have fits := law.fits g
  obtain ⟨mem, link⟩ := (fits.onAir p).mp air
  have run := law.run_of_engaged (p := p) (by simp [link])
  unfold State.loseOnAir
  split
  next r found =>
    obtain ⟨memr, linkr⟩ : s.isMember r g ∧ (s.port r).link = .ready := by
      split at found
      · exact State.readyMember_spec found
      · cases found
    have m := ((((Moves.setGroup s g
      { s.group g with onAir := some r, cut := some (heard.getD s.now), grant := some s.now }).granted r
        (heard.getD s.now)).enterLink r (l := .onAir) (by simp [linkr])).changes (.raise .refl (portEvent .failover r))).lost p
    refine law.moves m run (fun q => ?_) (fun q => ?_) (fun q => ?_) (fun q => ?_)
      (fun q => ?_) ?_ ?_
    · grind
    · grind [LinkState.qualified]
    · have := fits.onAir q; grind
    · have := fits.taking q; grind
    · have := fits.yielding q; grind
    · exact fits.together
    · have := fits.exclusive; grind
  next =>
    have m := ((Moves.setGroup s g { s.group g with onAir := none }).changes (.closeRouted .refl g)).lost p
    refine law.moves m run (fun q => ?_) (fun q => ?_) (fun q => ?_) (fun q => ?_)
      (fun q => ?_) ?_ ?_
    · grind
    · grind [LinkState.qualified]
    · have := fits.onAir q; grind
    · have := fits.taking q; grind
    · have := fits.yielding q; grind
    · exact fits.together
    · simp

theorem RelayLaw.relayLoss_dropped (law : RelayLaw s) (p : Port) : RelayLaw ((s.relayLoss p).dropped p) := by
  unfold State.relayLoss
  split
  next g link group => exact law.abortHandover_dropped (law.taking_of_link link group)
  next g link group => exact law.completeHandover_dropped (law.yielding_of_link link group)
  next g link group => exact law.loseOnAir_dropped (law.onAir_of_link link group) _
  next taking yielding air =>
    refine law.dropped ?_
    by_contra engaged
    rw [Bool.not_eq_false, LinkState.engaged_iff] at engaged
    obtain ⟨g, mem⟩ := law.grouped p engaged
    rcases engaged with e | e | e
    · exact air g e mem.2
    · exact taking g e mem.2
    · exact yielding g e mem.2

theorem RelayLaw.loseLink (law : RelayLaw s) (p : Port) : RelayLaw (s.loseLink p) :=
  (law.relayLoss_dropped p).changes
    (((Changes.sendPort .refl p (.state .offline 0)).raise (portEvent .linkLoss p)).setAlert .linkLost (some p))

/-! ### Refresh and samples -/

theorem RelayLaw.heard (law : RelayLaw s) (p : Port) (x y : Option Smc) :
    RelayLaw (s.setPort p { s.port p with lastHeard := x, silence := y }) :=
  law.changes (Changes.setPort .refl {})

theorem RelayLaw.refreshLink (law : RelayLaw s) (run : s.mode = .run) (p : Port) : RelayLaw (s.refreshLink p) := by
  unfold State.refreshLink
  dsimp only
  split
  next off =>
    have heard := law.heard p (some s.now) (some (plus s.now s.silenceTimeout))
    have down : (upState (s.port p).par.kind).engaged = false ∧ (upState (s.port p).par.kind).qualified = false := by
      unfold upState
      split <;> exact ⟨rfl, rfl⟩
    refine heard.of_port (p := p) rfl (fun q ne => by simp [ne]) (fun q => by simp) (fun _ => ⟨rfl, rfl, rfl, rfl⟩)
      (by simp [off, LinkState.engaged]) (by simp [down.1]) (fun q => ?_) (fun config => by cases run.symm.trans config)
    rw [State.enterLink_link, if_pos rfl, down.2] at q
    cases q
  next => exact law.heard p _ _

theorem joinWindow_length (w : List Int) (x : Int) : (joinWindow w x).length = min 16 (w.length + 1) := by
  simp only [joinWindow, keepNewest, List.length_drop, List.length_append, List.length_singleton]
  omega

theorem RelayLaw.addSample (law : RelayLaw s) (run : s.mode = .run) (p : Port) (x : Int) : RelayLaw (s.addSample p x) := by
  obtain ⟨groups, ports⟩ := (relayLaw_iff s).mp law
  have longer : 4 ≤ (s.port p).window.length → 4 ≤ (joinWindow (s.port p).window x).length := by
    rw [joinWindow_length]; omega
  have joined : RelayLaw (s.setPort p { s.port p with window := joinWindow (s.port p).window x }) := by
    have link (q : Port) : ((s.setPort p { s.port p with window := joinWindow (s.port p).window x }).port q).link =
        (s.port q).link := by rw [State.port_setPort]; split <;> simp [*]
    have par (q : Port) : ((s.setPort p { s.port p with window := joinWindow (s.port p).window x }).port q).par =
        (s.port q).par := by rw [State.port_setPort]; split <;> simp [*]
    have members (q : Port) (g : Group) :
        (s.setPort p { s.port p with window := joinWindow (s.port p).window x }).isMember q g ↔ s.isMember q g := by
      rw [State.isMember, par]; rfl
    refine (relayLaw_iff _).mpr ⟨fun g => (groups g).congr ⟨rfl, rfl, rfl, rfl⟩ (members · g) fun q _ => Or.inl (link q),
      fun q => ⟨fun e => ?_, fun e => ?_, fun config => by cases run.symm.trans config⟩⟩
    · obtain ⟨g, mem⟩ := (ports q).grouped (link q ▸ e)
      exact ⟨g, (members q g).mpr mem⟩
    · rw [link] at e
      have old := (ports q).samples e
      rw [State.port_setPort]
      split
      next same => exact longer (same ▸ old)
      next => exact old
  unfold State.addSample
  dsimp only
  split
  next up =>
    refine joined.of_port (p := p) rfl (fun q ne => by simp [ne]) (fun q => by simp) (fun _ => ⟨rfl, rfl, rfl, rfl⟩)
      (by simp [up.1, LinkState.engaged]) (by simp [LinkState.engaged]) (fun _ => ?_)
      (fun config => by cases run.symm.trans config)
    simpa using up.2
  next => exact joined

end Sys2Proof.Machine
end

section
set_option Elab.async false
/-! SUPPORT. The relay law along every command: what arrives, expires or is taken, the parameter writes, START, STOP and power-on
reset; and the laws of the reset state. -/

namespace Sys2Proof.Machine

variable {c : Instr} {s t : State}

/-! ### Words taken, links heard and lost -/

theorem RelayLaw.judgeWord (law : RelayLaw s) (run : s.mode = .run) (p : Port) (w : WordRecord) :
    RelayLaw (s.judgeWord p w) := by
  have told : Changes .outer s (s.staleEvent p w) := Changes.staleEvent .refl p w
  have run' : (s.staleEvent p w).mode = .run := by simpa using run
  unfold State.judgeWord
  split
  next g _ _ =>
    unfold State.judgeOnAir
    dsimp only
    split
    · exact law.changes (told.raise _)
    · exact law.changes (told.acceptWord run' _ _ _ _)
  next g _ _ =>
    unfold State.judgeYielding
    dsimp only
    split
    · exact law.changes (told.acceptWord run' _ _ _ _)
    · exact (law.changes (told.raise _)).completeHandover g
  · exact law.changes (.raise .refl _)

theorem RelayLaw.takeWord (law : RelayLaw s) (p : Port) : RelayLaw (s.takeWord p) := by
  unfold State.takeWord
  split
  next w next_ =>
    exact (law.changes (.removeHead .refl p)).judgeWord (by simpa using State.run_of_nextRecord next_) p w
  next => exact law

theorem RelayLaw.takeHead (law : RelayLaw s) (p : Port) : RelayLaw (s.takeHead p) := by
  unfold State.takeHead
  split
  · exact law
  · exact law.takeWord p
  · exact law.changes (.takeRetract .refl p)
  · exact law.changes (.takeOpen .refl p)
  · exact law.changes (.takeCue .refl p)
  · exact law.changes (.takeClose .refl p)
  · exact law.changes (.takeDrop .refl p)

theorem RelayLaw.expireSilence (law : RelayLaw s) (p : Port) : RelayLaw (s.expireSilence p) := by
  unfold State.expireSilence
  split
  · exact law.loseLink p
  · exact law

theorem RelayLaw.expireYield (law : RelayLaw s) (g : Group) : RelayLaw (s.expireYield g) := by
  unfold State.expireYield
  split
  · exact law.completeHandover g
  · exact law

theorem RelayLaw.receive (law : RelayLaw s) (p : Port) (type : ContributorType) {act : State → Option State}
    (acts : ∀ u v, RelayLaw u → u.mode = .run → type.acceptedOn (u.port p).par.kind = true → act u = some v →
      RelayLaw v) : RelayLaw (s.receive p type act) := by
  unfold State.receive
  split
  next receives =>
    have run := State.run_of_receives receives
    have heard := law.refreshLink run p
    have kind : ((s.refreshLink p).port p).par.kind = (s.port p).par.kind := by
      unfold State.refreshLink
      dsimp only
      split
      · simp
      · simp
    dsimp only
    split
    next accepted =>
      rcases acted : act (s.refreshLink p) with _ | v
      · exact heard.changes (.raise .refl _)
      · exact acts _ v heard (by simpa using run) (kind ▸ accepted) acted
    next => exact heard.changes (.raise .refl _)
  next => exact law

theorem RelayLaw.frameFails (law : RelayLaw s) (p : Port) : RelayLaw (s.frameFails p) :=
  law.changes (.frameFails .refl p)

theorem RelayLaw.receiveBytes (law : RelayLaw s) (p : Port) (type : ContributorType) (payload : List Byte)
    {act : State → Option State}
    (acts : ∀ u v, RelayLaw u → u.mode = .run → type.acceptedOn (u.port p).par.kind = true → act u = some v →
      RelayLaw v) : RelayLaw (s.receiveBytes p type payload act) := by
  unfold State.receiveBytes
  split
  · exact law.frameFails p
  · exact law.receive p type acts

theorem RelayLaw.contributorFailure (law : RelayLaw s) (p : Port) (raw : List Byte) :
    RelayLaw (s.contributorFailure p raw) := by
  unfold State.contributorFailure
  refine List.foldlRecOn _ _ law fun u hu v _ => ?_
  cases v with
  | taken => exact hu
  | fails => exact hu.frameFails p
  | notTaken =>
    unfold State.lineFailure
    dsimp only
    split
    next receives => exact (hu.refreshLink (State.run_of_receives receives) p).changes (.raise .refl _)
    next => exact hu

/-! ### Boundaries -/

theorem State.owned_outer (s : State) : s.Owned .outer := fun _ _ => trivial

theorem RelayLaw.runTask (law : RelayLaw s) (x : BoundaryTask) : RelayLaw (s.runTask x) := by
  cases x with
  | silence p => exact law.expireSilence p
  | yieldEnd g => exact law.expireYield g
  | take p => exact law.takeHead p
  | refresh p => exact law.changes (.expireRefresh .refl p)
  | cutAged g => exact law.changes (.ageCut .refl g)
  | idle k => exact law.changes (.expireIdle .refl k)
  | effects => exact law.changes (.expireEffects .refl trivial s.owned_outer)
  | switches k => exact law.changes (.expireSwitches .refl k)
  | liveStartAged k => exact law.changes (.ageLiveStart .refl k)
  | lastChangeAged k => exact law.changes (.ageLastChange .refl k)

theorem RelayLaw.finishBoundary (law : RelayLaw s) : RelayLaw s.finishBoundary :=
  List.foldlRecOn _ _ law fun _ hu x _ => hu.runTask x

theorem RelayLaw.runStep {x : Sending} (law : RelayLaw x.state) (y : BoundaryStep) : RelayLaw (x.runStep y).state := by
  cases y with
  | task z => exact law.runTask z
  | deadlines => exact law.changes (.deadlineStep .refl)
  | commit k => exact law.changes (.commitStep .refl k)
  | controls => exact law.changes (.controls (x := x) .refl trivial)
  | captions => exact law.changes (.captions (x := x) .refl trivial)
  | account => exact law.changes (.account .refl)

theorem RelayLaw.runSteps {x : Sending} (law : RelayLaw x.state) (l : List BoundaryStep) :
    RelayLaw (l.foldl Sending.runStep x).state :=
  List.foldlRecOn (motive := fun y : Sending => RelayLaw y.state) l _ law fun _ hu y _ => hu.runStep y

theorem RelayLaw.advanceBoundary (law : RelayLaw s) (m : Moment) : RelayLaw (s.advanceBoundary m) := by
  have advanced : RelayLaw (s.advanced m) := { law with }
  exact advanced.changes (Changes.advanceBoundary s m)

theorem RelayLaw.frameBoundary (law : RelayLaw s) (m : Moment) (o : BoundaryOrder) : RelayLaw (s.frameBoundary m o) := by
  have advanced := law.finishBoundary.advanceBoundary m
  unfold State.frameBoundary
  generalize s.finishBoundary.advanceBoundary m = t at advanced ⊢
  have first := advanced.runSteps (x := ⟨t, t.budget⟩) ((t.boundarySteps o).take o.sample)
  exact RelayLaw.runSteps (x := ⟨State.sampleLevels _, _⟩) (first.changes (.sampleLevels .refl)) _

theorem RelayLaw.setRef (law : RelayLaw s) (u : RefUnit) : RelayLaw { s with ref := u } := { law with }

theorem RelayLaw.unlockedPulse (law : RelayLaw s) (o : RefOrigin) (m : Moment) : RelayLaw (s.unlockedPulse o m) :=
  law.changes (.unlockedPulse .refl o m)

theorem RelayLaw.qualifyingPulse (law : RelayLaw s) (m : Moment) (o : BoundaryOrder) :
    RelayLaw (s.qualifyingPulse m o) := by
  unfold State.qualifyingPulse
  split
  · exact law.setRef _
  · dsimp only
    split
    · have locked := fun u : RefUnit => (law.setRef u).changes (.setAlert .refl .refLocked none)
      unfold State.lockedBoundary
      split
      · exact locked _
      · exact (locked _).frameBoundary m o
    · exact law.setRef _

theorem RelayLaw.pulse (law : RelayLaw s) (m : Moment) (o : BoundaryOrder) : RelayLaw (s.pulse m o) := by
  unfold State.pulse
  split
  · exact law.unlockedPulse _ m
  · exact law.unlockedPulse _ m
  · exact law.qualifyingPulse m o
  · rw [State.lockedPulse_eq]
    split
    · exact law.setRef _
    · exact (law.setRef _).frameBoundary m o

theorem RelayLaw.loseReference (law : RelayLaw s) (o : BoundaryOrder) : RelayLaw (s.loseReference o) := by
  unfold State.loseReference
  split
  · exact (law.changes (.lostUnit .refl)).frameBoundary _ o
  · exact law

theorem RelayLaw.flywheelTick (law : RelayLaw s) (o : BoundaryOrder) : RelayLaw (s.flywheelTick o) := by
  unfold State.flywheelTick
  split
  · exact law
  · exact (law.setRef _).frameBoundary _ o

/-! ### CONFIG -/

/-- In CONFIG no group has a port and no port is up. -/
theorem relayLaw_of_offline (links : ∀ p, (s.port p).link = .offline)
    (groups : ∀ g, SameRoles GroupState.reset (s.group g)) : RelayLaw s := by
  refine (relayLaw_iff s).mpr ⟨fun g => ?_, fun p => ⟨fun e => ?_, fun q => ?_, fun _ => links p⟩⟩
  · obtain ⟨onAir, taking, yielding, deadline⟩ := groups g
    exact ⟨fun p => by simp [onAir, links, GroupState.reset], fun p => by simp [taking, links, GroupState.reset],
      fun p => by simp [yielding, links, GroupState.reset], by simp [taking, yielding, deadline, GroupState.reset],
      fun _ => by rw [onAir]; rfl⟩
  · rw [links] at e; cases e
  · rw [links] at q; cases q

theorem RelayLaw.idle (law : RelayLaw s) (config : s.mode = .config) (g : Group) :
    SameRoles GroupState.reset (s.group g) := by
  have off := law.config config
  have fits := law.fits g
  have none (role : Option Port) {l : LinkState} (h : ∀ p, role = some p ↔ (s.isMember p g ∧ (s.port p).link = l))
      (up : l ≠ .offline) : role = none :=
    Option.eq_none_iff_forall_ne_some.mpr fun p e => up (((h p).mp e).2.symm.trans (off p))
  have yielding := none _ fits.yielding (by simp)
  have deadline := fits.together.2
  rw [yielding] at deadline
  exact ⟨none _ fits.onAir (by simp), none _ fits.taking (by simp), yielding,
    Option.isNone_iff_eq_none.mp (by simpa using deadline.symm)⟩

theorem RelayLaw.configPort (law : RelayLaw s) (config : s.mode = .config) (p : Port) (par : PortParams) :
    RelayLaw (s.setPortPar p par) := by
  refine relayLaw_of_offline (fun q => ?_) (law.idle config)
  rw [State.setPortPar, State.port_setPort]
  split
  · exact law.config config p
  · exact law.config config q

theorem PortNumber.write_group (n : PortNumber) (par : PortParams) (v : Nat) :
    (n.write par v).kind = par.kind ∧ (n.write par v).group = par.group := by
  cases n <;> exact ⟨rfl, rfl⟩

theorem RelayLaw.setPortPar (law : RelayLaw s) (p : Port) {par : PortParams}
    (same : par.kind = (s.port p).par.kind ∧ par.group = (s.port p).par.group) : RelayLaw (s.setPortPar p par) :=
  law.changes (.setPort .refl { links := Or.inr ⟨rfl, same.1, same.2, rfl⟩ })

theorem RelayLaw.writeRegion (law : RelayLaw s) (config : s.mode = .config) (n : RegionName) (r : Region) :
    RelayLaw (s.writeRegion n r) := by
  cases n with
  | port p => exact law.setPortPar p ⟨rfl, rfl⟩
  | service k => exact law.changes (.setServicePar .refl trivial trivial id (Or.inl rfl))
  | pool => exact law.changes (.writePool .refl config r)

theorem RelayLaw.write (law : RelayLaw s) {x : Param} {m : Moment} {v : ParamValue}
    (mode : (s.running && !x.writableInRun) = false) (ok : x.accepts s v = true) : RelayLaw (x.write m v s) := by
  have config (fixed : x.writableInRun = false) : s.mode = .config := by
    rw [fixed, Bool.not_false, Bool.and_true] at mode
    cases hm : s.mode
    · rfl
    · simp [State.running, hm] at mode
  unfold Param.write
  split
  · split
    · exact law
    · exact law.changes (.writeRate .refl _ _)
  · exact law.setRef _
  · exact { law with }
  · exact law.configPort (config rfl) _ _
  · exact law.configPort (config rfl) _ _
  next p n _ => exact law.setPortPar p (n.write_group _ _)
  next p b =>
    unfold State.writeFlowControl
    dsimp only
    split
    · exact (law.setPortPar p (par := { (s.port p).par with flowControl := b }) ⟨rfl, rfl⟩).changes (.sendResume .refl p)
    · exact law.setPortPar p ⟨rfl, rfl⟩
  · exact law.changes (.setGroup .refl {})
  · exact law.changes (.setGroup .refl {})
  · exact law.changes (.setServicePar .refl trivial trivial id (Or.inr (config rfl)))
  · exact law.changes (.writeRoute .refl trivial trivial _ _)
  · exact law.changes (.setServicePar .refl trivial trivial (ServiceNumber.write_rows ok)
      (Or.inl (ServiceNumber.write_enabled _ _ _)))
  · exact law.changes (.writeSchedMode .refl _)
  · exact { law with }
  · exact law.writeRegion (config rfl) _ _
  · exact law.writeRegion (config rfl) _ _
  · exact law

theorem RelayLaw.writeParam (law : RelayLaw s) (row member index : Nat) (m : Moment) (v : ParamValue) :
    RelayLaw (writeParam row member index m v s).state := by
  unfold Machine.writeParam
  split
  · exact law
  · unfold writeChecked
    split
    · exact law
    next mode =>
      split
      · exact law
      next ok => exact law.write (by simpa using mode) (by simpa using ok)

theorem RelayLaw.command (law : RelayLaw s) (type : Byte) {act : State → Reply}
    (acts : ∀ u, RelayLaw u → RelayLaw (act u).state) : RelayLaw (s.command type act) := by
  have carried : RelayLaw s.carrier := law.changes (.carrier .refl)
  rw [State.command_eq]
  split
  · exact { carried with }
  · exact { acts _ carried with }

theorem RelayLaw.inMode (law : RelayLaw s) {m : Mode} {r : Reply} (acts : s.mode = m → RelayLaw r.state) :
    RelayLaw (inMode s m r).state := by
  unfold Machine.inMode
  split
  · exact acts ‹_›
  · exact law

theorem relayLaw_reset : RelayLaw State.reset :=
  relayLaw_of_offline (fun p => by rw [State.reset_port]; rfl)
    fun g => by rw [State.reset_group]; exact ⟨rfl, rfl, rfl, rfl⟩

theorem RelayLaw.leaveRun (s : State) : RelayLaw s.leaveRun :=
  relayLaw_of_offline (fun p => by rw [State.leaveRun_port]; rfl)
    fun g => by rw [State.leaveRun_group]; exact ⟨rfl, rfl, rfl, rfl⟩

theorem RelayLaw.startPart (law : RelayLaw s) (config : s.mode = .config) : RelayLaw (startPart s).state := by
  unfold Machine.startPart
  split
  · exact law
  · refine relayLaw_of_offline (s := s.enterRun) (fun p => ?_) (law.idle config)
    rw [State.enterRun_port]
    exact law.config config p

/-! ### Every command -/

theorem accepts_take {k : PortKind} (h : ContributorType.take.acceptedOn k = true) : k = .writer := by
  cases k with
  | writer => rfl
  | _ => cases h

theorem exec_relayLaw (c : Instr) (law : RelayLaw s) : ∃ t, exec c s = .next t ∧ RelayLaw t := by
  have quiet {t : State} (h : Changes .outer s t) : RelayLaw t := law.changes h
  have records {act : State → Reply} (acts : ∀ u, Changes .outer u (act u).state) (type : Byte) :
      RelayLaw (s.command type act) := law.command type fun u hu => hu.changes (acts u)
  have receives (p : Port) (type : ContributorType) {act : State → Option State}
      (acts : ∀ u v, Changes .outer u u → u.mode = .run → act u = some v → Changes .outer u v) :
      RelayLaw (s.receive p type act) :=
    law.receive p type fun u v hu run _ e => hu.changes (acts u v .refl run e)
  cases c with
  | powerOnReset => exact ⟨_, rfl, { relayLaw_reset with }⟩
  | referencePulse m o => exact ⟨_, rfl, law.pulse m o⟩
  | missingPulse => exact ⟨_, rfl, quiet (.missPulse .refl)⟩
  | lossOfReference o => exact ⟨_, rfl, law.loseReference o⟩
  | flywheelBoundary o => exact ⟨_, rfl, law.flywheelTick o⟩
  | frameLabel ok l => exact ⟨_, rfl, quiet (.takeLabel .refl ok l)⟩
  | contributorFrameFailure p raw => exact ⟨_, rfl, law.contributorFailure p raw⟩
  | word p x =>
    exact ⟨_, rfl, law.receiveBytes p _ x fun u v hu run _ e => hu.changes (Changes.takeInWord p x u v .refl run e)⟩
  | retract p n => exact ⟨_, rfl, receives p _ fun u v => Changes.takeInRetract p n u v⟩
  | stamp p x =>
    refine ⟨_, rfl, law.receiveBytes p _ x fun u v hu run _ e => ?_⟩
    obtain ⟨tick, -, rfl⟩ := Option.map_eq_some_iff.mp e
    exact hu.addSample run p _
  | take p =>
    exact ⟨_, rfl, law.receive p _ fun u v hu _ accepted e =>
      Option.some.inj e ▸ hu.decideTake (accepts_take accepted)⟩
  | release p => exact ⟨_, rfl, law.receive p _ fun u v hu _ _ e => Option.some.inj e ▸ hu.decideRelease p⟩
  | pkgOpen p id n => exact ⟨_, rfl, receives p _ fun u v => Changes.takeInOpen p id n u v⟩
  | pkgCue p x => exact ⟨_, rfl, receives p _ fun u v => Changes.takeInCue p x u v⟩
  | pkgClose p id => exact ⟨_, rfl, receives p _ fun u v => Changes.takeInClose p id u v⟩
  | pkgDrop p id => exact ⟨_, rfl, receives p _ fun u v => Changes.takeInDrop p id u v⟩
  | refreshDeadlineExpiry p => exact ⟨_, rfl, quiet (.expireRefresh .refl p)⟩
  | silenceDeadlineExpiry p => exact ⟨_, rfl, law.expireSilence p⟩
  | wordRecordTake p => exact ⟨_, rfl, law.takeWord p⟩
  | retractRecordTake p => exact ⟨_, rfl, quiet (.takeRetract .refl p)⟩
  | pkgOpenTake p => exact ⟨_, rfl, quiet (.takeOpen .refl p)⟩
  | pkgCueTake p => exact ⟨_, rfl, quiet (.takeCue .refl p)⟩
  | pkgCloseTake p => exact ⟨_, rfl, quiet (.takeClose .refl p)⟩
  | pkgDropTake p => exact ⟨_, rfl, quiet (.takeDrop .refl p)⟩
  | yieldDeadlineExpiry g => exact ⟨_, rfl, law.expireYield g⟩
  | cutTimeAged g => exact ⟨_, rfl, quiet (.ageCut .refl g)⟩
  | idleDeadlineExpiry k => exact ⟨_, rfl, quiet (.expireIdle .refl k)⟩
  | clearDeadlineExpiry k => exact ⟨_, rfl, quiet (.expireClear .refl k)⟩
  | outputStalled => exact ⟨_, rfl, quiet (.checkStall .refl)⟩
  | ready => exact ⟨_, rfl, { law with }⟩
  | busy => exact ⟨_, rfl, { law with }⟩
  | outputFrameDropped => exact ⟨_, rfl, law⟩
  | event x => exact ⟨_, rfl, quiet (.takeEvent .refl (fun _ _ => trivial) x)⟩
  | automationFrameDropped => exact ⟨_, rfl, law⟩
  | effectTimeExpiry => exact ⟨_, rfl, quiet (.expireEffects .refl trivial s.owned_outer)⟩
  | switchTimeExpiry k => exact ⟨_, rfl, quiet (.expireSwitches .refl k)⟩
  | liveStartAged k => exact ⟨_, rfl, quiet (.ageLiveStart .refl k)⟩
  | lastChangeAged k => exact ⟨_, rfl, quiet (.ageLastChange .refl k)⟩
  | transactionStart => exact ⟨_, rfl, quiet (.beginTransaction .refl)⟩
  | commandCheckFailed raw =>
    simp only [exec, execCommandCheckFailed]
    split
    · exact ⟨_, rfl, quiet (.checkReply .refl _)⟩
    · exact ⟨_, rfl, law⟩
  | unknownCommandType type =>
    simp only [exec, execUnknownCommandType]
    split
    · exact ⟨_, rfl, law⟩
    · exact ⟨_, rfl, records (fun _ => .refl) _⟩
  | parameterRead row member index => exact ⟨_, rfl, records (fun _ => .readParam .refl _ _ _) _⟩
  | parameterWrite m row member index v => exact ⟨_, rfl, law.command _ fun _ hu => hu.writeParam _ _ _ _ _⟩
  | frameRateWrite m v => exact ⟨_, rfl, law.command _ fun _ hu => hu.writeParam _ _ _ _ _⟩
  | configuredRouteWrite index v => exact ⟨_, rfl, law.command _ fun _ hu => hu.writeParam _ _ _ _ _⟩
  | flowControlWrite index v => exact ⟨_, rfl, law.command _ fun _ hu => hu.writeParam _ _ _ _ _⟩
  | schedulingModeWrite v => exact ⟨_, rfl, law.command _ fun _ hu => hu.writeParam _ _ _ _ _⟩
  | poolRegionWrite member v => exact ⟨_, rfl, law.command _ fun _ hu => hu.writeParam _ _ _ _ _⟩
  | start => exact ⟨_, rfl, law.command _ fun _ hu => hu.inMode hu.startPart⟩
  | stop => exact ⟨_, rfl, law.command _ fun u hu => hu.inMode fun _ => .leaveRun u⟩
  | flushPort n =>
    exact ⟨_, rfl, records (fun _ => .inMode .refl fun _ => .withIndex .refl fun p => .flushPortQueue .refl p) _⟩
  | flushService n =>
    exact ⟨_, rfl, records (fun _ => .inMode .refl fun _ => .withIndex .refl fun k => .flushServiceCues .refl k) _⟩
  | counterSelect n f => exact ⟨_, rfl, records (fun _ => .selectCounter .refl n f) _⟩
  | counterClear n => exact ⟨_, rfl, records (fun _ => .clearCounter .refl n) _⟩
  | counterRead named => exact ⟨_, rfl, records (fun _ => .readCounters .refl named) _⟩
  | alertStatus => exact ⟨_, rfl, records (fun _ => .refl) _⟩
  | alertClear marks => exact ⟨_, rfl, records (fun _ => .setAlerts .refl trivial _) _⟩
  | alertEnable marks => exact ⟨_, rfl, records (fun _ => .setAlerts .refl trivial _) _⟩
  | referenceStatus => exact ⟨_, rfl, records (fun _ => .refl) _⟩
  | portStatus n => exact ⟨_, rfl, records (fun _ => .withIndex .refl fun _ => .refl) _⟩
  | groupStatus n => exact ⟨_, rfl, records (fun _ => .withIndex .refl fun _ => .refl) _⟩
  | serviceStatus n => exact ⟨_, rfl, records (fun _ => .withIndex .refl fun _ => .refl) _⟩
  | layoutStatus => exact ⟨_, rfl, records (fun _ => .refl) _⟩
  | automationStatus => exact ⟨_, rfl, records (fun _ => .refl) _⟩
  | packageStatus => exact ⟨_, rfl, records (fun _ => .refl) _⟩
  | responseReady => exact ⟨_, rfl, { law with }⟩

theorem ServiceState.reset_rising : ServiceState.reset.rising ∧ ServiceState.reset.behindShown :=
  ⟨List.Pairwise.nil, by simp [ServiceState.behindShown, ServiceState.reset]⟩

end Sys2Proof.Machine

open Sys2Proof.Machine

/-- Settles O7: a port takes up a relay state as its group's record names it, operation by operation. -/
theorem stepKeepsRelayLaw : Obligations.StepKeepsRelayLaw := by
  intro s t law h
  rcases step_next h with rfl | ⟨c, l, next_⟩
  · exact law
  · obtain ⟨u, next', kept⟩ := exec_relayLaw (s := { s with pending := l }) c { law with }
    cases next_.symm.trans next'
    exact kept

/-- Settles O4, law by law on the reset state. -/
theorem lawsHoldAtReset : Obligations.LawsHoldAtReset :=
  ⟨counterLaw_reset, sizeLaw_reset, relayLaw_reset, configIdle_reset,
    (bandLaw_iff _).mpr ⟨fun k => (State.reset_service k).symm ▸ ServiceState.reset_banded, fun _ no => by cases no⟩,
    packageLaw_reset, storeLaw_reset, textLaw_reset, fun k => (State.reset_service k).symm ▸ ServiceState.reset_rising⟩

end

section
set_option Elab.async false
/-! SUPPORT. The reference unit (spec/01): how a pulse is judged, the predicted sequence by whole cycles, and what a frame boundary
keeps of the alerts. -/

namespace Sys2Proof.Machine

variable {s t : State}

/-! ### Pulses -/

/-- A good interval lies within 1 % of the nominal period, without a division. -/
theorem Rate.goodInterval_iff (r : Rate) (i : Nat) :
    r.goodInterval i = true ↔ 99 * r.nominal ≤ 100 * i ∧ 100 * i ≤ 101 * r.nominal := by
  rw [Rate.goodInterval, Bool.and_eq_true, decide_eq_true_iff, decide_eq_true_iff]
  cases r <;> (simp only [Rate.nominal]; omega)

theorem RefUnit.goodPulse_of_good {u : RefUnit} {m r : Moment} (record : u.pulseRecord = some r)
    (low : 99 * u.rate.nominal ≤ 100 * (m - r)) (high : 100 * (m - r) ≤ 101 * u.rate.nominal) :
    u.goodPulse m = some (m - r) := by
  simp [RefUnit.goodPulse, RefUnit.interval, record, u.rate.goodInterval_iff, low, high]

theorem RefUnit.goodPulse_of_bad {u : RefUnit} {m : Moment}
    (bad : u.pulseRecord = none ∨ ∃ r, u.pulseRecord = some r ∧ r ≤ m ∧
      (100 * (m - r) < 99 * u.rate.nominal ∨ 101 * u.rate.nominal < 100 * (m - r))) : u.goodPulse m = none := by
  rcases bad with none | ⟨r, record, -, out⟩
  · simp [RefUnit.goodPulse, RefUnit.interval, none]
  · have : ¬ u.rate.goodInterval (m - r) = true := by
      rw [u.rate.goodInterval_iff]
      rcases out with low | high
      · exact fun h => Nat.not_le_of_lt low h.1
      · exact fun h => Nat.not_le_of_lt high h.2
    simp [RefUnit.goodPulse, RefUnit.interval, record, this]

theorem RefUnit.swallows_iff {u : RefUnit} {b : Moment} (last : u.lastBoundary = some b) (m : Moment) :
    u.swallows m = true ↔ 2 * m < 2 * b + u.rate.nominal := by
  have even : u.rate.nominal = 2 * u.rate.halfPeriod := by cases u.rate <;> rfl
  rw [RefUnit.swallows, last, even, ← Nat.mul_add]
  exact decide_eq_true_iff.trans (Nat.mul_lt_mul_left Nat.two_pos).symm

theorem joinHistory16_eq (h : List Nat) (i : Nat) : joinHistory16 h i = (h ++ [i]).drop (h.length + 1 - 16) := by
  simp [joinHistory16, keepNewest]

theorem meanInterval_near {h : List Nat} (full : h.length = 16) :
    16 * meanInterval h < h.sum + 16 ∧ h.sum < 16 * meanInterval h + 16 := by
  unfold meanInterval
  rw [full]
  split
  · omega
  · split <;> omega

/-! ### The predicted sequence -/

theorem Rate.step_le (r : Rate) (ph : Fin 3) : r.step ph ≤ 40 := by
  cases r <;> fin_cases ph <;> decide

theorem Rate.step_pos (r : Rate) (ph : Fin 3) : 0 < r.step ph := by
  cases r <;> fin_cases ph <;> decide

/-- Of a rate with a cycle of one step, the steps do not depend on the phase. -/
theorem Rate.sumSteps_flat {r : Rate} (flat : r.cycle = 1) (ph qh : Fin 3) (n : Nat) :
    r.sumSteps ph n = r.sumSteps qh n := by
  cases n with
  | zero => rfl
  | succ n => cases r <;> first | rfl | cases flat

/-- A whole cycle first. -/
theorem Rate.sumSteps_cycle_add (r : Rate) (ph : Fin 3) (n : Nat) :
    r.sumSteps ph (r.cycle + n) = r.perCycle + r.sumSteps ph n := by
  cases r with
  | fps25 => rw [Nat.add_comm]; exact congrArg (40 + ·) (Rate.sumSteps_flat rfl _ _ n)
  | fps50 => rw [Nat.add_comm]; exact congrArg (20 + ·) (Rate.sumSteps_flat rfl _ _ n)
  | fps30 =>
    rw [Nat.add_comm]
    fin_cases ph <;> simp [Rate.sumSteps, Rate.step, Rate.nextPhase, Rate.cycle, Rate.perCycle] <;> omega
  | fps60 =>
    rw [Nat.add_comm]
    fin_cases ph <;> simp [Rate.sumSteps, Rate.step, Rate.nextPhase, Rate.cycle, Rate.perCycle] <;> omega

theorem Rate.sumSteps_cycles_add (r : Rate) (ph : Fin 3) (q n : Nat) :
    r.sumSteps ph (q * r.cycle + n) = q * r.perCycle + r.sumSteps ph n := by
  induction q with
  | zero => simp
  | succ q ih =>
    rw [Nat.succ_mul, Nat.succ_mul, Nat.add_comm (q * _), Nat.add_assoc, Rate.sumSteps_cycle_add, ih]
    omega

theorem Rate.sumFrames_eq (r : Rate) (ph : Fin 3) (d : Nat) : r.sumFrames ph d = r.sumSteps ph d := by
  conv_rhs => rw [← Nat.div_add_mod d r.cycle, Nat.mul_comm, Rate.sumSteps_cycles_add]
  rfl

theorem Rate.sumSteps_mono (r : Rate) (ph : Fin 3) {m n : Nat} (h : m ≤ n) : r.sumSteps ph m ≤ r.sumSteps ph n := by
  induction m generalizing ph n with
  | zero => exact Nat.zero_le _
  | succ m ih =>
    obtain ⟨n, rfl⟩ := Nat.exists_eq_succ_of_ne_zero (Nat.ne_of_gt (Nat.lt_of_lt_of_le m.succ_pos h))
    exact Nat.add_le_add_left (ih _ (Nat.le_of_succ_le_succ h)) _

theorem Rate.sumSteps_succ_le (r : Rate) (ph : Fin 3) (n : Nat) : r.sumSteps ph (n + 1) ≤ r.sumSteps ph n + 40 := by
  induction n generalizing ph with
  | zero => exact r.step_le ph
  | succ n ih => exact (Nat.add_le_add_left (ih _) _).trans (Nat.add_assoc _ _ _).ge

/-- The climb stops at the first sum of steps that reaches the need. -/
theorem Rate.climb_spec (r : Rate) (ph : Fin 3) (fuel need : Nat) (enough : need ≤ r.sumSteps ph fuel) :
    ∃ j, r.climb ph fuel need = r.sumSteps ph j ∧ need ≤ r.sumSteps ph j ∧
      ∀ m < j, r.sumSteps ph m < need := by
  induction fuel generalizing ph need with
  | zero => exact ⟨0, rfl, enough, fun m no => absurd no (Nat.not_lt_zero m)⟩
  | succ fuel ih =>
    by_cases zero : need = 0
    · exact ⟨0, by simp [Rate.climb, zero, Rate.sumSteps], by simp [zero],
        fun m no => absurd no (Nat.not_lt_zero m)⟩
    · have step := r.step_le ph
      have pos := r.step_pos ph
      obtain ⟨j, same, reach, least⟩ := ih (r.nextPhase ph) (need - r.step ph)
        (by simp only [Rate.sumSteps] at enough; omega)
      refine ⟨j + 1, by simp only [Rate.climb, if_neg zero, same, Rate.sumSteps], by simp only [Rate.sumSteps]; omega,
        fun m lt => ?_⟩
      cases m with
      | zero => simp only [Rate.sumSteps]; omega
      | succ m =>
        have := least m (by omega)
        simp only [Rate.sumSteps]
        omega

/-- The snap of a positive gap is the first sum of the predicted steps that reaches it. -/
theorem Rate.snapGap_spec (r : Rate) (ph : Fin 3) {gap : Nat} (pos : 0 < gap) :
    ∃ n, 1 ≤ n ∧ r.snapGap ph gap = r.sumSteps ph n ∧ gap ≤ r.sumSteps ph n ∧ r.sumSteps ph n ≤ gap + 40 ∧
      ∀ m < n, r.sumSteps ph m < gap := by
  let q := (gap - 1) / r.perCycle
  have cycle : q * r.perCycle < gap ∧ gap - q * r.perCycle ≤ r.perCycle := by
    have per : 0 < r.perCycle := by cases r <;> decide
    have : q * r.perCycle + (gap - 1) % r.perCycle = gap - 1 := Nat.div_add_mod' (gap - 1) r.perCycle
    have := Nat.mod_lt (gap - 1) per
    constructor <;> omega
  have enough : gap - q * r.perCycle ≤ r.sumSteps ph 3 := by
    have whole := r.sumSteps_cycle_add ph 0
    have := r.sumSteps_mono ph (m := r.cycle) (n := 3) (by cases r <;> decide)
    simp only [Nat.add_zero, Rate.sumSteps] at whole this ⊢
    omega
  obtain ⟨j, same, reach, least⟩ := r.climb_spec ph 3 _ enough
  have sums := r.sumSteps_cycles_add ph q
  have started : j ≠ 0 := fun zero => by
    subst zero
    simp only [Rate.sumSteps] at reach
    omega
  have short := r.sumSteps_succ_le ph (j - 1)
  have below := least (j - 1) (by omega)
  rw [Nat.sub_add_cancel (by omega)] at short
  refine ⟨q * r.cycle + j, by omega, ?_, by rw [sums]; omega, by rw [sums]; omega, fun m lt => ?_⟩
  · rw [sums, ← same]
    rfl
  · rcases Nat.lt_or_ge m (q * r.cycle) with below | above
    · have := r.sumSteps_mono ph below.le
      have := sums 0
      simp only [Nat.add_zero, Rate.sumSteps] at this
      omega
    · obtain ⟨i, rfl⟩ := Nat.exists_eq_add_of_le above
      have := least i (by omega)
      rw [sums]
      omega

/-- Of two times less than half the range apart, the earlier. -/
theorem ahead_toInt_neg {y : BitVec 32} (pos : 0 < y.toInt) {k : Nat} (short : k ≤ y.toInt.toNat + 40) :
    (BitVec.ofNat 32 k - y).toInt < 0 ↔ k < y.toInt.toNat := by
  have below := y.isLt
  have value : y.toInt = y.toNat := by
    rw [BitVec.toInt_eq_toNat_cond] at pos ⊢
    split at pos
    · rw [if_pos ‹_›]
    · omega
  have half := BitVec.toInt_lt (x := y)
  rw [value] at pos short half ⊢
  rw [BitVec.toInt_eq_toNat_cond, BitVec.toNat_sub, BitVec.toNat_ofNat]
  split <;> omega

theorem earlier_ahead {x y : Smc} (pos : 0 < (x - y).toInt) {k : Nat} (short : k ≤ (x - y).toInt.toNat + 40) :
    earlier (y + BitVec.ofNat 32 k) x = true ↔ k < (x - y).toInt.toNat := by
  have apart : y + BitVec.ofNat 32 k - x = BitVec.ofNat 32 k - (x - y) := by ring
  rw [earlier_iff, apart, ahead_toInt_neg pos short]

/-! ### Frame boundaries -/

/-- Everything but the commands that replace parameters and alerts. -/
def Allow.steady : Allow := ⟨True, True, True, fun _ => True, False⟩

theorem Changes.alerts_kept {a : Allow} (steady : ¬ a.supervised) (h : Changes a s t) (i : Fin 8) :
    ((s.alerts.get i).flag = true → (t.alerts.get i).flag = true) ∧ (t.alerts.get i).enable = (s.alerts.get i).enable :=
  h.keeps (P := fun u => ((s.alerts.get i).flag = true → (u.alerts.get i).flag = true) ∧
    (u.alerts.get i).enable = (s.alerts.get i).enable) (fun _ _ c ⟨flag, enable⟩ =>
      have ⟨kept, same⟩ := (c.alerts_step i).kept.resolve_left steady
      ⟨kept ∘ flag, same.trans enable⟩) ⟨id, rfl⟩

theorem Changes.enabledServices {a : Allow} (steady : ¬ a.supervised) (h : Changes a s t) :
    t.enabledServices = s.enabledServices := by
  have kept (k : Service) : (t.service k).par.enabled = (s.service k).par.enabled :=
    h.keeps (P := fun u => (u.service k).par.enabled = (s.service k).par.enabled)
      (fun _ _ c e => ((c.services_step k).enabled.resolve_left steady).trans e) rfl
  simp only [State.enabledServices, kept]

theorem State.owned_steady (s : State) : s.Owned .steady := fun _ _ => trivial

theorem State.advanced_alerts (s : State) (m : Moment) : (s.advanced m).alerts = s.alerts := rfl

theorem State.frameBoundary_alerts (s : State) (m : Moment) (o : BoundaryOrder) (i : Fin 8) :
    ((s.alerts.get i).flag = true → ((s.frameBoundary m o).alerts.get i).flag = true) ∧
      ((s.frameBoundary m o).alerts.get i).enable = (s.alerts.get i).enable := by
  have finished : Changes .steady s s.finishBoundary := Changes.finishBoundary .refl trivial trivial s.owned_steady
  have advanced : Changes .steady (s.finishBoundary.advanced m) (s.finishBoundary.advanceBoundary m) :=
    Changes.advanceBoundary _ m
  have rest : Changes .steady (s.finishBoundary.advanceBoundary m) (s.frameBoundary m o) := by
    unfold State.frameBoundary
    generalize s.finishBoundary.advanceBoundary m = t
    have sends : ∀ y ∈ t.boundarySteps o, (∃ z, y = .task z) ∨ Allow.steady.sends := fun _ _ => Or.inr trivial
    have started : Changes .steady t t := .refl
    exact started.sampledSteps sends trivial trivial t.owned_steady _ _
  obtain ⟨flag1, enable1⟩ := finished.alerts_kept id i
  obtain ⟨flag2, enable2⟩ := advanced.alerts_kept id i
  rw [State.advanced_alerts] at flag2 enable2
  obtain ⟨flag3, enable3⟩ := rest.alerts_kept id i
  exact ⟨fun on => flag3 (flag2 (flag1 on)), enable3.trans (enable2.trans enable1)⟩

theorem inHoldover_iff (u : RefUnit) :
    u.inHoldover = true ↔ u.state = .holdover ∨ (u.state = .qualifying ∧ u.origin = some .holdover) := by
  simp [RefUnit.inHoldover]

theorem State.advanced_eq (s : State) (m : Moment) : s.advanced m =
    { s with
      ref := { s.ref with
        smc := s.ref.smc + BitVec.ofNat 32 (s.ref.rate.step s.ref.phase)
        phase := s.ref.rate.nextPhase s.ref.phase
        lastBoundary := some m
        anchor := s.ref.anchor.map fun a =>
          ⟨(a.frame + 1) % (86400 * s.ref.rate.fps), s.ref.smc + BitVec.ofNat 32 (s.ref.rate.step s.ref.phase),
            s.ref.rate.nextPhase s.ref.phase⟩ }
      events := s.events.map fun e => { e with armed := true }
      services := s.services.map fun v => { v with switches := v.switches.map fun e => { e with armed := true } } } := rfl

/-- The consumer finds no record, or the head. -/
theorem State.nextRecord_of_head (s : State) {p : Port} {r : IntakeRecord} {rest : List IntakeRecord}
    (head : (s.port p).queue = r :: rest) : s.nextRecord p = none ∨ s.nextRecord p = some r := by
  unfold State.nextRecord
  rw [head]
  split
  · exact Or.inr rfl
  · exact Or.inl rfl

/-! ### Labels -/

theorem labelInRange_iff (l : Label) (r : Rate) : labelInRange l r = true ↔
    l.hours < 24 ∧ l.minutes < 60 ∧ l.seconds < 60 ∧ l.frames < r.fps := by
  simp [labelInRange, and_assoc]

/-- The difference of two frames-of-day is the representative within half a day of the difference. -/
theorem dayDifference_eq {r : Rate} {x y : Nat} {d : Int}
    (same : ∃ z : Int, d = (x : Int) - y + z * (86400 * r.fps)) (low : -(43200 * r.fps : Int) ≤ d)
    (high : d < 43200 * r.fps) : dayDifference r x y = d := by
  obtain ⟨z, hz⟩ := same
  have shifted : (x : Int) - y + 43200 * r.fps = (d + 43200 * r.fps) + 2 * (43200 * r.fps) * (-z) := by
    rw [hz]; ring
  simp only [dayDifference]
  rw [shifted, Int.add_mul_emod_self_left, Int.emod_eq_of_lt (by omega) (by omega)]
  omega

end Sys2Proof.Machine

open Sys2Proof.Machine

/-- Settles O3: the reset state by its definition. -/
theorem powerOnResetValues : Obligations.PowerOnResetValues := by
  refine ⟨fun _ => rfl, rfl, rfl, State.reset_port, State.reset_group, State.reset_service, rfl, rfl, rfl, rfl, rfl, rfl,
    rfl, rfl, rfl, rfl, fun i => Sys2Proof.Per8.get_all _ i, fun i => Sys2Proof.Per8.get_all _ i, rfl⟩

/-- Settles O15: the judgement of the pulse decides. -/
theorem pulseOutsideLocked : Obligations.PulseOutsideLocked := by
  intro s m order state
  refine ⟨fun r record _ low high => ?_, fun bad => ?_⟩
  · have good := RefUnit.goodPulse_of_good record low high
    rcases state with h | h <;>
      simp [exec, execReferencePulse, State.pulse, State.unlockedPulse, h, good, RefUnit.startQualifying, RefUnit.recordPulse]
  · have judged := RefUnit.goodPulse_of_bad bad
    rcases state with h | h <;>
      simp [exec, execReferencePulse, State.pulse, State.unlockedPulse, h, judged, RefUnit.recordPulse]

/-- Settles O16: the judgement of the pulse, the count and the guard decide. -/
theorem pulseWhileQualifying : Obligations.PulseWhileQualifying := by
  refine ⟨fun s m order state => ⟨fun r record _ low high => ?_, fun bad => ?_⟩, fun s state => ⟨fun origin => ?_, fun origin => ?_⟩⟩
  · have good := RefUnit.goodPulse_of_good record low high
    have pulse : exec (.referencePulse m order) s = .next (s.qualifyingPulse m order) := by
      simp [exec, execReferencePulse, State.pulse, state]
    refine ⟨fun more => ?_, fun last b boundary => ?_⟩
    · rw [pulse]
      simp [State.qualifyingPulse, good, RefUnit.recordPulse, lockCount, joinHistory16_eq, more]
    · have locks : exec (.referencePulse m order) s = .next ((State.setAlert { s with
          ref := (s.ref.counted m (m - r)).lock } .refLocked none).lockedBoundary (s.ref.swallows m) m order) := by
        rw [pulse]
        simp [State.qualifyingPulse, good, RefUnit.recordPulse, lockCount, last, RefUnit.counted]
      have unit : (s.ref.counted m (m - r)).lock = { s.ref with
          pulseRecord := some m
          state := .locked
          flywheel := none
          goodCount := 64
          history := (s.ref.history ++ [m - r]).drop (s.ref.history.length + 1 - 16) } := by
        simp [RefUnit.counted, RefUnit.lock, RefUnit.recordPulse, last, joinHistory16_eq]
      intro locked
      rw [locks, unit, State.lockedBoundary]
      refine ⟨fun early => ?_, fun late => ?_⟩
      · rw [if_pos ((RefUnit.swallows_iff boundary m).mpr early)]
      · rw [if_neg (mt (RefUnit.swallows_iff boundary m).mp (Nat.not_lt.mpr late))]
  · simp [exec, execReferencePulse, State.pulse, State.qualifyingPulse, state, RefUnit.goodPulse_of_bad bad,
      RefUnit.recordPulse]
  · simp [exec, execMissingPulse, State.missPulse, state, RefUnit.originState, origin]
  · simp [exec, execMissingPulse, State.missPulse, state, RefUnit.originState, origin]

/-- Settles O17: the guard and the judgement of the pulse decide. -/
theorem pulseWhileLocked : Obligations.PulseWhileLocked := by
  intro s m order b state boundary
  have pulse : exec (.referencePulse m order) s = .next (s.lockedPulse m order) := by
    simp [exec, execReferencePulse, State.pulse, state]
  rw [pulse, State.lockedPulse_eq]
  refine ⟨fun early => ?_, fun late => ?_⟩
  · rw [if_pos ((RefUnit.swallows_iff boundary m).mpr early)]
    rfl
  · rw [if_neg (mt (RefUnit.swallows_iff boundary m).mp (Nat.not_lt.mpr late))]
    refine ⟨fun r record _ low high => ?_, fun bad => ?_⟩
    · simp [RefUnit.lockedPulse, RefUnit.goodPulse_of_good record low high, RefUnit.recordPulse, joinHistory16_eq]
    · simp [RefUnit.lockedPulse, RefUnit.goodPulse_of_bad bad, RefUnit.recordPulse]

/-- Settles O18: the mean of the 16 intervals is the holdover period. -/
theorem lossOfReference : Obligations.LossOfReference := by
  intro s order p b state record boundary full
  obtain ⟨low, high⟩ := meanInterval_near full
  refine ⟨meanInterval s.ref.history, low, high, ?_⟩
  have moment : s.ref.lossMoment = p + s.ref.rate.nominal + s.ref.rate.nominal / 2 := by
    simp [RefUnit.lossMoment, record, Rate.lossWindow, Nat.add_assoc]
  simp [exec, execLossOfReference, State.loseReference, state, moment, RefUnit.enterHoldover, boundary, plainEvent]

/-- Settles O20: the period in force by the state of the unit. -/
theorem flywheelBoundary : Obligations.FlywheelBoundary := by
  refine ⟨fun s m order running => ⟨fun h holdover period => ?_, fun n free low high whole => ?_⟩, fun s order stopped => ?_⟩
  · have force : s.ref.flywheelPeriod = h := by
      simp [RefUnit.flywheelPeriod, (inHoldover_iff s.ref).mpr holdover, period]
    simp [exec, execFlywheelBoundary, State.flywheelTick, running, force]
  · have other : ¬ s.ref.inHoldover = true := by
      rw [inHoldover_iff]
      rcases free with h | ⟨h, o⟩
      · simp [h]
      · simp [h, o]
    have force : s.ref.flywheelPeriod = n := by
      rw [RefUnit.flywheelPeriod, if_neg other, Rate.trimmed]
      rcases rate : s.ref.rate <;> simp only [rate, Rate.nominal] at whole ⊢ <;> omega
    simp [exec, execFlywheelBoundary, State.flywheelTick, running, force]
  · simp [exec, execFlywheelBoundary, State.flywheelTick, stopped]

/-- Settles O21: the tests of a label in their order. -/
theorem frameLabelMovesAnchor : Obligations.FrameLabelMovesAnchor := by
  intro s ok l inRange n
  have ranged : labelInRange l s.ref.rate = true ↔ inRange := labelInRange_iff l s.ref.rate
  have frame : labelFrame l s.ref.rate = n := rfl
  refine ⟨fun unused => ?_, fun state good fields => ?_⟩
  · have : ¬ (s.ref.state = .locked ∧ ok = true ∧ labelInRange l s.ref.rate = true) := by
      rw [ranged]
      rcases unused with h | h | h <;> simp [h]
    simp [exec, execFrameLabel, State.takeLabel, this]
  · have checked : exec (.frameLabel ok l) s = .next (s.checkLabel l) := by
      simp [exec, execFrameLabel, State.takeLabel, state, good, ranged.mpr fields]
    rw [checked]
    refine ⟨fun drop => ?_, fun plain none => ?_, fun a plain some agrees => ?_, fun a plain some differs => ?_⟩
    · simp [State.checkLabel, drop]
    · simp [State.checkLabel, plain, none, frame]
    · simp [State.checkLabel, plain, some, frame, agrees]
    · simp [State.checkLabel, plain, some, frame, differs, plainEvent]

/-- Settles O22, by the whole cycles and the single steps of the snap. -/
theorem snapIsFirstPredictedBoundary : Obligations.SnapIsFirstPredictedBoundary := by
  intro u x
  refine ⟨fun ahead => ?_, fun behind => by simp [RefUnit.snap, behind]⟩
  have gap : 0 < (x - u.smc).toInt := (later_iff x u.smc).mp ahead
  obtain ⟨n, pos, snap, reach, near, least⟩ := u.rate.snapGap_spec u.phase (gap := (x - u.smc).toInt.toNat) (by omega)
  refine ⟨n, pos, ?_, ?_, fun m _ lt => (earlier_ahead gap (by have := least m lt; omega)).mpr (least m lt)⟩
  · rw [RefUnit.snap, if_pos ahead, plus, ← snap]
    rfl
  · rw [← Bool.not_eq_true, earlier_ahead gap near]
    omega

/-- Settles O23: the tests of the conversion in their order; the sum by whole cycles is the sum step by step. -/
theorem labelConversion : Obligations.LabelConversion := by
  intro u l inRange n
  have ranged : labelInRange l u.rate = true ↔ inRange := labelInRange_iff l u.rate
  refine ⟨fun out => ?_, fun fields free => ?_, fun a d fields plain anchor same low high => ?_⟩
  · simp [RefUnit.convert, mt ranged.mp out]
  · rcases anchor : u.anchor with _ | a
    · simp [RefUnit.convert, ranged.mpr fields, anchor]
    · have drop : l.dropFrame = true := free.resolve_left (by simp [anchor])
      simp [RefUnit.convert, ranged.mpr fields, anchor, drop]
  · have diff : dayDifference u.rate (labelFrame l u.rate) a.frame = d := dayDifference_eq same low high
    refine ⟨fun past => ?_, fun ahead => ?_⟩
    · simp [RefUnit.convert, ranged.mpr fields, anchor, plain, diff, past]
    · intro e
      have effect : plus a.smc (u.rate.sumFrames a.phase d.toNat) = e := by rw [Rate.sumFrames_eq]; rfl
      refine ⟨fun near => ?_, fun far => ?_⟩
      · simp [RefUnit.convert, ranged.mpr fields, anchor, plain, diff, not_le.mpr ahead, effect, elapsed, near,
          -BitVec.toInt_sub]
      · simp [RefUnit.convert, ranged.mpr fields, anchor, plain, diff, not_le.mpr ahead, effect, elapsed, far,
          -BitVec.toInt_sub]

/-- Settles O19: the advance of the unit, the frame of a boundary, and the order of what is taken at it. -/
theorem frameBoundaryAdvances : Obligations.FrameBoundaryAdvances := by
  refine ⟨fun s m order => ⟨?unit, (frameBoundary_frame s m order).mono (by simp), fun i => (s.frameBoundary_alerts m order i).1,
      fun i => (s.frameBoundary_alerts m order i).2⟩, fun s m order => ?order, ?between, fun s left => ?pieces,
    fun s m => ?advance, fun s p g k => ?tasks⟩
  case unit => rw [State.frameBoundary_ref]; rfl
  case order =>
    intro enabled work things first
    have finished : SameBut _ s s.finishBoundary := finishBoundary_frame s
    have advanced : SameBut _ s.finishBoundary (s.finishBoundary.advanceBoundary m) := advanceBoundary_frame _ m
    have budget : (s.finishBoundary.advanceBoundary m).budget = s.budget :=
      (advanced .budget (by simp)).trans (finished .budget (by simp))
    have enabled_eq : (s.finishBoundary.advanceBoundary m).enabledServices = enabled := by
      have finishing : Changes .steady s s.finishBoundary := Changes.finishBoundary .refl trivial trivial s.owned_steady
      have advancing : Changes .steady (s.finishBoundary.advanced m) (s.finishBoundary.advanceBoundary m) :=
        Changes.advanceBoundary _ m
      have armed : (s.finishBoundary.advanced m).enabledServices = s.finishBoundary.enabledServices := by
        simp only [State.enabledServices, State.advanced_service]
      exact (advancing.enabledServices id).trans (armed.trans (finishing.enabledServices id))
    have mode : (s.finishBoundary.advanceBoundary m).mode = s.mode := by
      rw [State.advanceBoundary_mode]
      exact finished .mode (by simp)
    have steps : (s.finishBoundary.advanceBoundary m).boundarySteps order = things := by
      simp only [State.boundarySteps, State.schedulerSteps, State.running, mode, enabled_eq, beq_iff_eq]
      rfl
    unfold State.frameBoundary
    simp only [steps, budget]
    rfl
  case between => exact ⟨fun work => by cases work <;> rfl, fun g gs => ⟨rfl, fun w ws => rfl⟩⟩
  case pieces => exact ⟨rfl, fun x => rfl, rfl, fun k => rfl, fun k => rfl, rfl, rfl, rfl⟩
  case advance =>
    intro advanced holdover
    have unit : (s.advanced m).ref.inHoldover = true ↔ holdover := inHoldover_iff _
    have raised : s.advanceBoundary m = advanced.raiseIf (s.advanced m).ref.inHoldover (plainEvent .holdoverFrames) := rfl
    rw [raised]
    refine ⟨fun on => ?_, fun off => ?_⟩
    · rw [unit.mpr on]
      rfl
    · rw [Bool.eq_false_iff.mpr (mt unit.mp off)]
      rfl
  case tasks =>
    refine ⟨rfl, rfl, rfl, rfl, rfl, rfl, rfl, rfl, rfl, fun empty => ?_, fun w rest head => ?_, fun n a rest head => ?_,
      fun id n rest head => ?_, fun c rest head => ?_, fun id rest head => ?_, fun id rest head => ?_⟩
    · simp [State.runTask, State.takeHead, State.nextRecord, empty]
    all_goals
      rcases s.nextRecord_of_head head with shut | taken
      · simp [exec, execWordRecordTake, execRetractRecordTake, execPkgOpenTake, execPkgCueTake, execPkgCloseTake,
          execPkgDropTake, State.takeWord, State.takeRetract, State.takeOpen, State.takeCue, State.takeClose,
          State.takeDrop, State.runTask, State.takeHead, shut]
      · simp [exec, execWordRecordTake, execRetractRecordTake, execPkgOpenTake, execPkgCueTake, execPkgCloseTake,
          execPkgDropTake, State.runTask, State.takeHead, taken]

end

section
set_option Elab.async false
/-! SUPPORT. The contributor links (spec/02): what `receive` makes of a message by the port's kind and the mode, the refresh of a
link, and the fields that a refresh leaves. -/

namespace Sys2Proof.Machine

variable {s t : State}

theorem reached_iff (now d : Smc) : reached now d = true ↔ 0 ≤ (now - d).toInt := by
  simp only [reached, Bool.not_eq_true', ← Bool.not_eq_true, earlier_iff, not_lt]

theorem not_reached_iff (now d : Smc) : reached now d = false ↔ (now - d).toInt < 0 := by
  rw [← Bool.not_eq_true, reached_iff, not_le]

theorem aged_iff (now d : Smc) : aged now d = true ↔ 2 ^ 30 ≤ (now - d).toInt := decide_eq_true_iff

/-! ### The refresh of a link -/

@[simp] theorem State.refreshLink_par (s : State) (p q : Port) : ((s.refreshLink p).port q).par = (s.port q).par := by
  unfold State.refreshLink
  by_cases e : q = p
  · dsimp only
    split <;> simp [e]
  · dsimp only
    split <;> simp [e]

@[simp] theorem State.refreshLink_window (s : State) (p q : Port) :
    ((s.refreshLink p).port q).window = (s.port q).window := by
  unfold State.refreshLink
  by_cases e : q = p
  · dsimp only
    split <;> simp [e]
  · dsimp only
    split <;> simp [e]

@[simp] theorem State.refreshLink_ref (s : State) (p : Port) : (s.refreshLink p).ref = s.ref :=
  refreshLink_frame s p .ref (by simp)

@[simp] theorem State.refreshLink_group (s : State) (p : Port) (g : Group) : (s.refreshLink p).group g = s.group g :=
  congrArg (Per4.get · g) (refreshLink_frame s p .groups (by simp))

@[simp] theorem State.refreshLink_service (s : State) (p : Port) (k : Service) :
    (s.refreshLink p).service k = s.service k :=
  congrArg (Per4.get · k) (refreshLink_frame s p .services (by simp))

/-! ### Messages by the kind of port -/

/-- What a port answers a message that is not accepted or cannot be repaired. -/
def State.erred (s : State) (p : Port) : State := (s.refreshLink p).raise (portEvent .linkErrors p)

theorem State.receives_of_run {p : Port} (run : s.mode = .run) (used : (s.port p).par.kind ≠ .unused) :
    s.receives p = true := by simp [State.receives, State.running, run, used]

theorem State.receive_unused {p : Port} {type : ContributorType} {act : State → Option State}
    (unused : (s.port p).par.kind = .unused) : s.receive p type act = s := by
  simp [State.receive, State.receives, unused]

theorem State.receive_config {p : Port} {type : ContributorType} {act : State → Option State}
    (config : s.mode = .config) : s.receive p type act = s := by
  simp [State.receive, State.receives, State.running, config]

theorem State.receive_refused {p : Port} {type : ContributorType} {act : State → Option State} (run : s.mode = .run)
    (used : (s.port p).par.kind ≠ .unused) (refused : type.acceptedOn (s.port p).par.kind = false) :
    s.receive p type act = s.erred p := by
  simp [State.receive, s.receives_of_run run used, refused, State.erred]

theorem State.receive_accepted {p : Port} {type : ContributorType} {act : State → Option State} (run : s.mode = .run)
    (accepted : type.acceptedOn (s.port p).par.kind = true) :
    s.receive p type act = (act (s.refreshLink p)).getD (s.erred p) := by
  have used : (s.port p).par.kind ≠ .unused := fun no => by rw [no] at accepted; cases type <;> cases accepted
  simp [State.receive, s.receives_of_run run used, accepted, State.erred]

theorem State.receiveBytes_short {p : Port} {type : ContributorType} {payload : List Byte} {act : State → Option State}
    (short : payload.length ≤ 96) : s.receiveBytes p type payload act = s.receive p type act :=
  if_neg (Nat.not_lt.mpr short)

/-! ### Words -/

theorem State.pushWord_eq (s : State) (p : Port) (tick : BitVec 32) (e c : Bool) (text : Text) :
    s.pushWord p tick e c text =
      (s.raiseIf (decide (31 < text.length)) (portEvent .wordTruncated p)).push p
        (.word ⟨tick, s.ref.smc, e, c, text.take 31, decide (31 < text.length)⟩) := rfl

theorem readWord_short {payload : List Byte} (short : payload.length < 5) : readWord payload = none := by
  unfold readWord
  split
  · simp only [List.length_cons] at short
    omega
  · rfl

theorem readStamp_other {payload : List Byte} (other : payload.length ≠ 4) : readStamp payload = none := by
  unfold readStamp
  split
  · simp at other
  · rfl

theorem clampTo_eq (lo hi v : Nat) (le : lo ≤ hi) : clampTo lo hi v = if v < lo then lo else if hi < v then hi else v := by
  unfold clampTo
  split
  · omega
  · split <;> omega

end Sys2Proof.Machine

open Sys2Proof.Machine

/-- Settles O24: the branches of the refresh. -/
theorem linkRefresh : Obligations.LinkRefresh := by
  intro s p linked heard
  refine ⟨fun up => ?_, fun down => ?_, fun l => rfl⟩
  · unfold State.refreshLink
    exact if_neg up
  · unfold State.refreshLink
    dsimp only
    rw [if_pos down, State.enterLink, State.port_setPort, if_pos rfl, State.setPort_setPort]
    rfl

/-- Settles O26: the cleaned text is empty, fits, or is cut. -/
theorem wordIntake : Obligations.WordIntake := by
  have accepts {s : State} {p : Sys2Proof.Port} (kind : (s.port p).par.kind = .writer) :
      ContributorType.word.acceptedOn (s.port p).par.kind = true := by rw [kind]; rfl
  refine ⟨fun s p payload run kind short => ?_, fun s p b3 b2 b1 b0 flags text run kind fits => ?_⟩
  · simp only [exec, execWord]
    rw [State.receiveBytes_short (by omega), State.receive_accepted run (accepts kind), State.takeInWord,
      readWord_short short]
    rfl
  · intro t kept record
    have received : exec (.word p (b3 :: b2 :: b1 :: b0 :: flags :: text)) s =
        .next (match kept with
          | [] => t.raise (wordDrop .empty p)
          | text => t.pushWord p (be32 b3 b2 b1 b0) (flags.getLsbD 0) (flags.getLsbD 1) text) := by
      simp only [exec, execWord]
      rw [State.receiveBytes_short (by simp only [List.length_cons]; omega), State.receive_accepted run (accepts kind)]
      rfl
    rw [received]
    refine ⟨fun empty => ?_, fun some fitting => ?_, fun long => ?_⟩
    · rw [empty]
      rfl
    · obtain ⟨x, l, e⟩ := List.exists_cons_of_ne_nil some
      rw [e] at fitting ⊢
      have no : ¬ 31 < (x :: l).length := Nat.not_lt.mpr fitting
      simp only [State.pushWord_eq, decide_eq_false no, State.raiseIf_false, List.take_of_length_le fitting, record]
      simp [t]
    · obtain ⟨x, l, e⟩ := List.exists_cons_of_length_pos (Nat.lt_of_le_of_lt (Nat.zero_le _) long)
      rw [e] at long ⊢
      simp only [State.pushWord_eq, decide_eq_true long, State.raiseIf_true, record]
      simp [t, portEvent]

/-- Settles O27, message by message. -/
theorem recordIntake : Obligations.RecordIntake := by
  intro s p run t erred
  have refused : s.erred p = erred := rfl
  refine ⟨fun kind n => ?_, fun kind => ⟨fun id n => ?_, fun id => ?_, fun c => ?_⟩⟩
  · have received : exec (.retract p n) s = .next ((State.takeInRetract p n t).getD erred) := by
      simp only [exec, execRetract]
      rw [State.receive_accepted run (by rw [kind]; rfl)]
      rfl
    rw [received]
    refine ⟨fun zero => by rw [State.takeInRetract, if_pos zero]; rfl, fun some => ?_⟩
    simp [State.takeInRetract, some, t, State.now]
  · have received : exec (.pkgOpen p id n) s = .next ((State.takeInOpen p id n t).getD erred) := by
      simp only [exec, execPkgOpen]
      rw [State.receive_accepted run (by rw [kind]; rfl)]
      rfl
    rw [received]
    refine ⟨fun bad => by rw [State.takeInOpen, if_pos bad]; rfl, fun named low high => ?_⟩
    have good : ¬ (id = 0 ∨ n = 0 ∨ 255 < n) := by
      rintro (h | h | h)
      · exact named h
      · omega
      · omega
    rw [State.takeInOpen, if_neg good]
    rfl
  · have closed : exec (.pkgClose p id) s = .next ((State.takeInClose p id t).getD erred) := by
      simp only [exec, execPkgClose]
      rw [State.receive_accepted run (by rw [kind]; rfl)]
      rfl
    have dropped : exec (.pkgDrop p id) s = .next ((State.takeInDrop p id t).getD erred) := by
      simp only [exec, execPkgDrop]
      rw [State.receive_accepted run (by rw [kind]; rfl)]
      rfl
    rw [closed, dropped]
    refine ⟨fun zero => ?_, fun named => ?_⟩
    · rw [State.takeInClose, State.takeInDrop, if_pos zero, if_pos zero]
      exact ⟨rfl, rfl⟩
    · rw [State.takeInClose, State.takeInDrop, if_neg named, if_neg named]
      exact ⟨rfl, rfl⟩
  · have received : exec (.pkgCue p c) s = .next ((State.takeInCue p c t).getD erred) := by
      simp only [exec, execPkgCue]
      rw [State.receive_accepted run (by rw [kind]; rfl)]
      rfl
    intro r1 r2 offset duration
    have repaired : repairPkgCue c =
        if r1 ≠ [] then some ⟨offset, duration, r1, if r2 = [] then none else some r2, c.speaker⟩
        else if r2 ≠ [] then some ⟨offset, duration, r2, none, c.speaker⟩ else none := by
      unfold repairPkgCue
      rw [clampTo_eq 500 10000 c.duration (by decide), Nat.min_comm]
      rfl
    rw [received, State.takeInCue, repaired]
    refine ⟨fun e1 e2 => ?_, fun e1 e2 => ?_, fun e1 e2 => ?_, fun e1 e2 => ?_⟩
    · simp [e1, e2]
    · simp [e1, e2]
    · simp [e1, e2]
    · simp [e1, e2]

/-- Settles O29: the comparison with LW after the removal, and the two sides of the refresh deadline. -/
theorem holdRefreshAndResume : Obligations.HoldRefreshAndResume := by
  intro s p x taken
  refine ⟨fun hw lw marks => ⟨fun held low => ?_, fun quiet => ?_⟩, fun d held deadline => ⟨fun past => ?_, fun ahead => ?_⟩⟩
  · have asks : ((s.setPort p taken).port p).asksResume = true := by
      simp [PortState.asksResume, taken, held, marks, low]
    rw [State.removeHead, State.afterRemoval, if_pos asks, State.sendResume]
    simp [taken]
    rfl
  · have silent : ¬ ((s.setPort p taken).port p).asksResume = true := by
      rcases quiet with flowing | above
      · simp [PortState.asksResume, taken, flowing]
      · have : ¬ x.queue.length - 1 ≤ lw := Nat.not_le.mpr above
        simp [PortState.asksResume, taken, marks, this, -Nat.sub_le_iff_le_add]
    rw [State.removeHead, State.afterRemoval, if_neg silent]
  · have expired : s.refreshExpired p = true := by
      have flow : (s.port p).flow = .held := held
      have refresh : (s.port p).refresh = some d := deadline
      rw [State.refreshExpired, refresh]
      simp [flow, (reached_iff s.now d).mpr past]
    have same : { x with flow := .held, refresh := some (plus s.now (x.par.holdTime / 2)) } =
        { x with refresh := some (plus s.now (x.par.holdTime / 2)) } := by rw [← held]
    simp only [exec, execRefreshDeadlineExpiry, State.expireRefresh, if_pos expired, State.sendHold]
    exact congrArg (fun y => Host.Outcome.next (((s.setPort p y).sendPort p (.hold x.par.holdTime)).raise _)) same
  · have waiting : ¬ s.refreshExpired p = true := by
      have refresh : (s.port p).refresh = some d := deadline
      rw [State.refreshExpired, refresh]
      simp [(not_reached_iff s.now d).mpr ahead]
    simp only [exec, execRefreshDeadlineExpiry, State.expireRefresh, if_neg waiting]

/-- Settles O30: the sample joins the window, and the fourth makes the port READY. -/
theorem stampJoinsWindow : Obligations.StampJoinsWindow := by
  intro s p run kind t
  have accepts : ContributorType.stamp.acceptedOn (s.port p).par.kind = true := by rw [kind]; rfl
  have received (payload : List Sys2Proof.Byte) (short : payload.length ≤ 96) :
      exec (.stamp p payload) s = .next ((State.takeInStamp p payload t).getD (s.erred p)) := by
    simp only [exec, execStamp]
    rw [State.receiveBytes_short short, State.receive_accepted run accepts]
  refine ⟨fun b3 b2 b1 b0 => ?_, fun payload other short => ?_⟩
  · intro window newest joined
    have added : exec (.stamp p [b3, b2, b1, b0]) s =
        .next (t.addSample p (s.ref.smc - be32 b3 b2 b1 b0).toInt) := by
      rw [received _ (by simp)]
      simp [State.takeInStamp, readStamp, stampSample, t, State.now]
    have joins : joinWindow (t.port p).window (s.ref.smc - be32 b3 b2 b1 b0).toInt = newest := by
      simp only [joinWindow, keepNewest, t, State.refreshLink_window]
      rfl
    rw [added, State.addSample]
    simp only [joins]
    refine ⟨fun standby four => ?_, fun not => ?_⟩
    · have samples : ({ joined with link := .ready } : PortState).samples = newest.length := by
        simp [PortState.samples, joined, t, kind]
      rw [if_pos ⟨standby, four⟩, State.enterLink]
      simp only [State.port_setPort, if_true, State.setPort_setPort]
      exact congrArg (fun n => Host.Outcome.next ((t.setPort p _).sendPort p (.state .ready n))) samples
    · have waits : ¬ ((t.port p).link = .standby ∧ 4 ≤ newest.length) := fun ⟨standby, four⟩ =>
        not.elim (· standby) (Nat.not_lt.mpr four)
      rw [if_neg waits]
  · rw [received _ short, State.takeInStamp, readStamp_other other]
    rfl

end

section
set_option Elab.async false
/-! SUPPORT. The relay controller (spec/03): what TAKE, RELEASE and the loss of a link make of a group, case by case. -/

namespace Sys2Proof.Machine

variable {s t : State}

/-! ### Members and times -/

theorem find_of_first {α : Type} [LT α] {l : List α} (sorted : l.Pairwise (· < ·)) {f : α → Bool} {q : α} (mem : q ∈ l)
    (yes : f q = true) (first : ∀ r, r < q → f r = false) : l.find? f = some q := by
  induction sorted with
  | nil => cases mem
  | @cons r l below _ ih =>
    rcases List.mem_cons.mp mem with rfl | later
    · simp [yes]
    · rw [List.find?_cons, first r (below q later)]
      exact ih later

theorem State.readyMember_of_first {g : Group} {q : Port} (mem : s.isMember q g) (ready : (s.port q).link = .ready)
    (first : ∀ r, r < q → s.isMember r g → (s.port r).link ≠ .ready) : s.readyMember g = some q := by
  unfold State.readyMember State.members
  rw [List.find?_filter]
  refine find_of_first (by decide) (mem_allPorts q) ?_ fun r below => ?_
  · simp [mem.1, mem.2, ready]
  · have not := first r below
    simp only [State.isMember] at not
    simpa using not

theorem State.readyMember_of_none {g : Group} (none : ∀ q, s.isMember q g → (s.port q).link ≠ .ready) :
    s.readyMember g = .none := by
  unfold State.readyMember
  rw [List.find?_eq_none]
  intro q mem
  simpa using none q (State.mem_members.mp mem)

theorem State.foldl_closeRouted (g : Group) (ks : List Service) (s : State) :
    ks.foldl (fun t k => if (t.service k).liveRoute = some g then t.closeCue k else t) s =
      (ks.filter fun k => decide ((s.service k).liveRoute = some g)).foldl State.closeCue s := by
  induction ks generalizing s with
  | nil => rfl
  | cons k ks ih =>
    rw [List.foldl_cons, ih, List.filter_cons]
    by_cases routed : (s.service k).liveRoute = some g
    · simp only [if_pos routed, State.closeCue_liveRoute, decide_eq_true routed, if_true, List.foldl_cons]
    · simp only [if_neg routed, decide_eq_false routed, Bool.false_eq_true, if_false]

theorem State.closeRouted_eq (s : State) (g : Group) : s.closeRouted g =
    (allServices.filter fun k => decide ((s.service k).liveRoute = some g)).foldl State.closeCue s :=
  State.foldl_closeRouted g allServices s

/-! ### Expiries -/

theorem State.yieldExpired_of {g : Group} {d : Smc} (h : (s.group g).yieldDeadline = some d) :
    s.yieldExpired g = reached s.ref.smc d := by rw [State.yieldExpired, h]; rfl

theorem State.expireYield_of_past {g : Group} {d : Smc} (h : (s.group g).yieldDeadline = some d)
    (past : 0 ≤ (s.ref.smc - d).toInt) : s.expireYield g = s.completeHandover g false :=
  if_pos ((State.yieldExpired_of h).trans ((reached_iff _ _).mpr past))

theorem State.expireYield_of_ahead {g : Group} {d : Smc} (h : (s.group g).yieldDeadline = some d)
    (ahead : (s.ref.smc - d).toInt < 0) : s.expireYield g = s :=
  if_neg (by rw [State.yieldExpired_of h, (not_reached_iff _ _).mpr ahead]; simp)

theorem State.expireSilence_of_past {p : Port} {d : Smc} (h : (s.port p).silence = some d)
    (past : 0 ≤ (s.ref.smc - d).toInt) : s.expireSilence p = s.loseLink p :=
  if_pos (by rw [State.silenceExpired, h]; exact (reached_iff _ _).mpr past)

theorem State.expireSilence_of_ahead {p : Port} {d : Smc} (h : (s.port p).silence = some d)
    (ahead : (s.ref.smc - d).toInt < 0) : s.expireSilence p = s :=
  if_neg (by rw [State.silenceExpired, h]; exact Bool.eq_false_iff.mp ((not_reached_iff _ _).mpr ahead))

/-! ### The end of a handover -/

theorem State.completeHandover_of {g : Group} {p q : Port} (taking : (s.group g).taking = some p)
    (yielding : (s.group g).yielding = some q) (lost : Bool) : s.completeHandover g lost =
      let t := (s.setGroup g { s.group g with
        onAir := some p, taking := none, yielding := none, yieldDeadline := none }).enterLink p .onAir
      ((if lost then t else t.enterLink q .ready).clearHistory q).raise (portEvent .handover p) := by
  simp only [State.completeHandover, taking, yielding]

/-! ### Decisions -/

theorem State.decideTake_refused {p : Port} {r : TakeResult} (result : s.takeResult p = r) (refused : r ≠ .granted) :
    s.decideTake p = s.sendPort p (.takeAnswer r none) := by
  unfold State.decideTake
  rw [result]
  cases r <;> first | rfl | exact absurd rfl refused

theorem State.takeResult_of_ready {p : Port} {g : Group} (group : (s.port p).par.group = some g)
    (link : (s.port p).link = .ready) :
    s.takeResult p = if (s.group g).taking.isSome then .busy else .granted := by
  simp only [State.takeResult, group, link]

theorem State.decideTake_idle {p : Port} {g : Group} (group : (s.port p).par.group = some g)
    (link : (s.port p).link = .ready) (free : (s.group g).taking = none) (idle : (s.group g).onAir = none) :
    s.decideTake p = s.grantIdle p g := by
  have granted : s.takeResult p = .granted := by rw [State.takeResult_of_ready group link, free]; rfl
  simp only [State.decideTake, granted, group, idle]

theorem State.decideTake_onAir {p q : Port} {g : Group} (group : (s.port p).par.group = some g)
    (link : (s.port p).link = .ready) (free : (s.group g).taking = none) (air : (s.group g).onAir = some q) :
    s.decideTake p = s.beginHandover p q g := by
  have granted : s.takeResult p = .granted := by rw [State.takeResult_of_ready group link, free]; rfl
  simp only [State.decideTake, granted, group, air]

theorem State.cutTick_of_least {p : Port} {o : Int} (mem : o ∈ (s.port p).window)
    (least : ∀ x ∈ (s.port p).window, o ≤ x) (c : Smc) :
    s.cutTick p c = c - BitVec.ofInt 32 o + BitVec.ofNat 32 (s.port p).par.lag := by
  rw [State.cutTick, estimate_of_least mem least]
  rfl

/-! ### Loss of a link -/

theorem State.relayLoss_quiet {p : Port} (h : (s.port p).link ∈ ([.standby, .ready, .up] : List LinkState)) :
    s.relayLoss p = s := by
  simp only [List.mem_cons, List.not_mem_nil, or_false] at h
  rcases h with h | h | h <;> simp [State.relayLoss, h]

/-! ### Closing the routed open cues -/

theorem State.insertCue_service_of_ne (s : State) {k l : Service} (ne : l ≠ k) (c : CueRecord) :
    (s.insertCue k c).service l = s.service l := by
  unfold State.insertCue
  dsimp only
  split
  · simp [ne]
  · split <;> simp [ne]

theorem State.insertCue_openCue (s : State) (k : Service) (c : CueRecord) :
    ((s.insertCue k c).service k).openCue = (s.service k).openCue := by
  unfold State.insertCue
  dsimp only
  split
  · simp
  · split <;> simp

/-- A close moves no other service, and leaves no cue open. -/
theorem State.closeCue_service (s : State) (k : Service) :
    (∀ l, l ≠ k → (s.closeCue k).service l = s.service l) ∧ ((s.closeCue k).service k).openCue = none := by
  rcases opened : (s.service k).openCue with _ | o
  · rw [State.closeCue_of_none opened]
    exact ⟨fun _ _ => rfl, opened⟩
  · rw [State.closeCue_of_some opened rfl]
    generalize timeCue s.ref (s.service k) o.body s.now = x
    cases cut : x.cut
    · rw [State.settleTimed_of_kept cut]
      refine ⟨fun l ne => ?_, ?_⟩
      · simp [State.insertCue_service_of_ne _ ne, ne]
      · simp [State.insertCue_openCue, ServiceState.closed]
    · rw [State.settleTimed_of_cut k cut]
      exact ⟨fun l ne => by simp [ne], by simp⟩

theorem State.foldl_closeCue_service (ks : List Service) (s : State) (k : Service) :
    (k ∉ ks → (ks.foldl State.closeCue s).service k = s.service k) ∧
      (k ∈ ks ∨ (s.service k).openCue = none → ((ks.foldl State.closeCue s).service k).openCue = none) := by
  induction ks generalizing s with
  | nil => exact ⟨fun _ => rfl, fun h => h.resolve_left (by simp)⟩
  | cons j ks ih =>
    obtain ⟨others, self⟩ := s.closeCue_service j
    obtain ⟨stays, closes⟩ := ih (s.closeCue j)
    refine ⟨fun out => ?_, fun closed => closes ?_⟩
    · obtain ⟨ne, out⟩ := not_or.mp (mt List.mem_cons.mpr out)
      exact (stays out).trans (others k ne)
    · by_cases e : k = j
      · exact Or.inr (e ▸ self)
      · exact (closed.imp (fun mem => (List.mem_cons.mp mem).resolve_left e) fun none => by rw [others k e]; exact none)

theorem State.closeRouted_service (s : State) (g : Group) (k : Service) :
    ((s.service k).liveRoute = some g → ((s.closeRouted g).service k).openCue = none) ∧
      ((s.service k).liveRoute ≠ some g → (s.closeRouted g).service k = s.service k) := by
  rw [State.closeRouted_eq]
  obtain ⟨stays, closes⟩ := State.foldl_closeCue_service
    (allServices.filter fun k => decide ((s.service k).liveRoute = some g)) s k
  exact ⟨fun routed => closes (Or.inl (List.mem_filter.mpr ⟨mem_allServices k, decide_eq_true routed⟩)),
    fun other => stays fun mem => other (of_decide_eq_true (List.mem_filter.mp mem).2)⟩

/-! ### The take of a word -/

theorem GroupState.beforeCut_iff (x : GroupState) (e : Smc) :
    x.beforeCut e = true ↔ ∃ c, x.cut = some c ∧ (e - c).toInt < 0 := by
  rcases cut : x.cut with _ | c <;> simp [GroupState.beforeCut, cut, -BitVec.toInt_sub]

@[simp] theorem State.removeHead_par (s : State) (p q : Port) : ((s.removeHead p).port q).par = (s.port q).par := by
  unfold State.removeHead State.afterRemoval State.sendResume
  by_cases e : q = p
  · split <;> simp [e]
  · split <;> simp [e]

@[simp] theorem State.removeHead_link (s : State) (p q : Port) : ((s.removeHead p).port q).link = (s.port q).link := by
  unfold State.removeHead State.afterRemoval State.sendResume
  by_cases e : q = p
  · split <;> simp [e]
  · split <;> simp [e]

@[simp] theorem State.removeHead_window (s : State) (p q : Port) :
    ((s.removeHead p).port q).window = (s.port q).window := by
  unfold State.removeHead State.afterRemoval State.sendResume
  by_cases e : q = p
  · split <;> simp [e]
  · split <;> simp [e]

@[simp] theorem State.removeHead_group (s : State) (p : Port) (g : Group) : (s.removeHead p).group g = s.group g :=
  congrArg (Per4.get · g) (removeHead_frame s p .groups (by simp))

theorem State.removeHead_speechFor (s : State) (p : Port) (w : WordRecord) :
    (s.removeHead p).speechFor p w = s.speechFor p w := by
  simp [State.speechFor, State.rawFor]

/-- The consumer takes the head of a queue in RUN that is not paused. -/
theorem State.takeWord_of_head {p : Port} {w : WordRecord} {rest : List IntakeRecord} (run : s.mode = .run)
    (head : (s.port p).queue = .word w :: rest) (free : (s.port p).link ≠ .taking) :
    s.takeWord p = (s.removeHead p).judgeWord p w := by
  have taken : s.nextRecord p = some (.word w) := by
    simp [State.nextRecord, State.running, run, State.paused, free, head]
  rw [State.takeWord, taken]

theorem State.nextRecord_idle {p : Port} (idle : s.mode = .config ∨ (s.port p).link = .taking) :
    s.nextRecord p = none := by
  rcases idle with h | h
  · simp [State.nextRecord, State.running, h]
  · simp [State.nextRecord, State.paused, h]

theorem State.takeWord_idle {p : Port} (idle : s.mode = .config ∨ (s.port p).link = .taking) : s.takeWord p = s := by
  rw [State.takeWord, State.nextRecord_idle idle]

end Sys2Proof.Machine

open Sys2Proof.Machine

/-- Settles O31, by the state that the port held. -/
theorem lossOfLink : Obligations.LossOfLink := by
  refine ⟨State.closeRouted_eq, fun s p d silence => ?_⟩
  intro lost
  refine ⟨fun ahead => ?_, fun past => ⟨fun quiet => ?_, fun g group =>
    ⟨fun link q yielding => ?_, fun link q taking yielding => ?_, fun link => ⟨fun alone => ?_,
      fun q h failover mem ready first heard => ?_⟩⟩⟩⟩
  · simp only [exec, execSilenceDeadlineExpiry, State.expireSilence_of_ahead silence ahead]
  all_goals
    have expired : exec (.silenceDeadlineExpiry p) s = .next (lost (s.relayLoss p)) := by
      simp only [exec, execSilenceDeadlineExpiry, State.expireSilence_of_past silence past]
      rfl
  · rw [expired, State.relayLoss_quiet quiet]
  · rw [expired]
    simp only [State.relayLoss, link, group, State.abortHandover, yielding]
  · intro t
    rw [expired]
    simp only [State.relayLoss, link, group, State.completeHandover_of taking yielding]
    rfl
  · rw [expired]
    have nobody : (if (s.group g).failover then s.readyMember g else none) = none := by
      rcases alone with off | none
      · rw [off]; rfl
      · rw [State.readyMember_of_none none]; exact ite_self _
    simp only [State.relayLoss, link, group, State.loseOnAir, nobody]
  · intro o
    rw [expired]
    have somebody : (if (s.group g).failover then s.readyMember g else none) = some q := by
      rw [if_pos failover, State.readyMember_of_first mem ready first]
    simp only [State.relayLoss, link, group, State.loseOnAir, somebody, heard]
    rfl

/-- Settles O32: the tests of R39 in their order. -/
theorem takeDecision : Obligations.TakeDecision := by
  intro s p run kind t link refused
  have received : exec (.take p) s = .next (t.decideTake p) := by
    simp only [exec, execTake]
    rw [State.receive_accepted run (by rw [kind]; rfl)]
    rfl
  have answers {r : TakeResult} (result : t.takeResult p = r) (no : r ≠ .granted) : refused r :=
    received.trans (congrArg _ (State.decideTake_refused result no))
  have par : (t.port p).par = (s.port p).par := s.refreshLink_par p p
  refine ⟨fun none => answers ?_ (by simp), fun g group => ?_⟩
  · simp only [State.takeResult, par, none]
  · have group' : (t.port p).par.group = some g := by rw [par]; exact group
    have record : t.group g = s.group g := s.refreshLink_group p g
    refine ⟨fun standby => answers ?_ (by simp), fun already => answers ?_ (by simp), fun ready busy => answers ?_ (by simp),
      fun ready free o mem least => ?_⟩
    · have standby' : (t.port p).link = .standby := standby
      simp only [State.takeResult, group', standby']
    · simp only [List.mem_cons, List.not_mem_nil, or_false] at already
      rcases already with h | h | h
      all_goals
        have h' : (t.port p).link = _ := h
        simp only [State.takeResult, group', h']
    · rw [State.takeResult_of_ready group' ready, record, if_pos busy]
    · intro tick
      have free' : (t.group g).taking = none := by rw [record]; exact free
      have window : (t.port p).window = (s.port p).window := s.refreshLink_window p p
      have cut (u : State) (same : u.port p = t.port p) : u.cutTick p s.ref.smc = tick := by
        rw [State.cutTick_of_least (by rw [same, window]; exact mem) (by rw [same, window]; exact least), same, par]
      have now : t.now = s.ref.smc := congrArg RefUnit.smc (s.refreshLink_ref p)
      refine ⟨fun idle => ?_, fun q air => ?_⟩
      · rw [received, State.decideTake_idle group' ready free' (by rw [record]; exact idle), State.grantIdle,
          State.answerGranted, now, record, cut _ (by simp)]
      · rw [received, State.decideTake_onAir group' ready free' (by rw [record]; exact air), State.beginHandover,
          State.answerGranted, now, record, cut _ (by simp)]
        rfl

/-- Settles O33: by the state of the port. -/
theorem releaseDecision : Obligations.ReleaseDecision := by
  refine ⟨State.closeRouted_eq, fun s p run kind => ?_⟩
  intro t link
  have received : exec (.release p) s = .next (t.decideRelease p) := by
    simp only [exec, execRelease]
    rw [State.receive_accepted run (by rw [kind]; rfl)]
    rfl
  refine ⟨fun other => ?_, fun g group => ?_⟩
  · rw [received]
    have other' : (t.port p).link ∈ ([.standby, .ready, .taking] : List LinkState) := other
    simp only [List.mem_cons, List.not_mem_nil, or_false] at other'
    rcases other' with h | h | h <;> simp only [State.decideRelease, h]
  · have group' : (t.port p).par.group = some g := by rw [s.refreshLink_par p p]; exact group
    have record : t.group g = s.group g := s.refreshLink_group p g
    refine ⟨fun air => ?_, fun yielding => ?_⟩
    · have air' : (t.port p).link = .onAir := air
      refine ⟨?_, fun k => ?_⟩
      · rw [received]
        simp only [State.decideRelease, air', group', State.releaseOnAir, record]
      · have same : (t.setGroup g { s.group g with onAir := none }).service k = s.service k := s.refreshLink_service p k
        have closes := State.closeRouted_service (t.setGroup g { s.group g with onAir := none }) g k
        rwa [same] at closes
    · have yielding' : (t.port p).link = .yielding := yielding
      rw [received]
      simp only [State.decideRelease, yielding', group', State.releaseYielding]

/-- Settles O34, by the two sides of the deadline. -/
theorem handoverCompletes : Obligations.HandoverCompletes := by
  refine ⟨fun s g p q taking yielding => ?_, fun s g none => ?_⟩
  · intro t ended
    have completes : s.completeHandover g false = ended := by
      rw [State.completeHandover_of taking yielding]
      rfl
    refine ⟨completes, fun d deadline => ⟨fun past => ?_, fun ahead => ?_⟩⟩
    · simp only [exec, execYieldDeadlineExpiry, State.expireYield_of_past deadline past, completes]
    · simp only [exec, execYieldDeadlineExpiry, State.expireYield_of_ahead deadline ahead]
  · simp [exec, execYieldDeadlineExpiry, State.expireYield, State.yieldExpired, none]

/-- Settles O35: the two sides of the bound, for each kept time. -/
theorem agedTimesBecomeAbsent : Obligations.AgedTimesBecomeAbsent := by
  intro s g k x
  have old (h : 2 ^ 30 ≤ (s.ref.smc - x).toInt) : aged s.now x = true := (aged_iff _ _).mpr h
  have young (h : (s.ref.smc - x).toInt < 2 ^ 30) : ¬ aged s.now x = true := mt (aged_iff _ _).mp (not_le.mpr h)
  refine ⟨fun held => ⟨fun h => ?_, fun h => ?_⟩, fun held => ⟨fun h => ?_, fun h => ?_⟩,
    fun held => ⟨fun h => ?_, fun h => ?_⟩⟩
  · simp only [exec, execCutTimeAged, State.ageCut, held, if_pos (old h)]
  · simp only [exec, execCutTimeAged, State.ageCut, held, if_neg (young h)]
  · simp only [exec, execLiveStartAged, State.ageLiveStart, held, if_pos (old h)]
  · simp only [exec, execLiveStartAged, State.ageLiveStart, held, if_neg (young h)]
  · simp only [exec, execLastChangeAged, State.ageLastChange, held, if_pos (old h)]
  · simp only [exec, execLastChangeAged, State.ageLastChange, held, if_neg (young h)]

/-- Settles O37: by the state of the port and the side of the cut. -/
theorem wordTake : Obligations.WordTake := by
  intro s p w rest queue t link
  refine ⟨fun idle => ?_, fun run off => ?_, fun run g group => ?_⟩
  · simp only [exec, execWordRecordTake, State.takeWord_idle idle]
  · have off' : (s.port p).link ∈ ([.offline, .standby, .ready] : List LinkState) := off
    simp only [List.mem_cons, List.not_mem_nil, or_false] at off'
    rcases off' with h | h | h
    all_goals
      simp only [exec, execWordRecordTake, State.takeWord_of_head run queue (by simp [h]), State.judgeWord,
        State.removeHead_link, h]
      rfl
  · intro e u accepted
    have group' : (t.port p).par.group = some g := by rw [s.removeHead_par p p]; exact group
    have speech : t.speechFor p w = e := s.removeHead_speechFor p w
    have record : t.group g = s.group g := s.removeHead_group p g
    have before (c : Sys2Proof.Smc) (cut : (s.group g).cut = some c) :
        (t.group g).beforeCut e = true ↔ (e - c).toInt < 0 := by
      rw [record, GroupState.beforeCut_iff, cut]
      simp [-BitVec.toInt_sub]
    refine ⟨fun air => ?_, fun yielding c cut => ?_⟩
    · have air' : (t.port p).link = .onAir := (s.removeHead_link p p).trans air
      have taken : exec (.wordRecordTake p) s =
          .next (if (t.group g).beforeCut e then u.raise (wordDrop .cutBefore p) else accepted) := by
        simp only [exec, execWordRecordTake]
        rw [State.takeWord_of_head run queue (by rw [show (s.port p).link = .onAir from air]; simp)]
        simp only [State.judgeWord, air', group', State.judgeOnAir, speech, t]
        rfl
      refine ⟨fun none => ?_, fun c cut => ⟨fun late => ?_, fun early => ?_⟩⟩
      · have no : ¬ (t.group g).beforeCut e = true := by
          rw [record, GroupState.beforeCut_iff, none]
          simp
        rw [taken, if_neg no]
      · rw [taken, if_neg (mt (before c cut).mp (not_lt.mpr late))]
      · rw [taken, if_pos ((before c cut).mpr early)]
        rfl
    · have yielding' : (t.port p).link = .yielding := (s.removeHead_link p p).trans yielding
      have taken : exec (.wordRecordTake p) s =
          .next (if (t.group g).beforeCut e then accepted
            else (u.raise (wordDrop .cutAfter p)).completeHandover g false) := by
        simp only [exec, execWordRecordTake]
        rw [State.takeWord_of_head run queue (by rw [show (s.port p).link = .yielding from yielding]; simp)]
        simp only [State.judgeWord, yielding', group', State.judgeYielding, speech, t]
        rfl
      refine ⟨fun early => ?_, fun late => ?_⟩
      · rw [taken, if_pos ((before c cut).mpr early)]
      · rw [taken, if_neg (mt (before c cut).mp (not_lt.mpr late))]
        rfl

end

section
set_option Elab.async false
/-! SUPPORT. The common frame (spec/12 R184): what a receiver reads of a line by what stands behind the marker, the check value
byte by byte; and the verdicts of a contributor line. -/

namespace Sys2Proof.Machine

variable {s t : State}

/-! ### Reading a frame -/

theorem readFrame_of_marker {before : List Byte} (clean : ∀ b ∈ before, b ≠ 0xA5#8) (limit : Nat) (after : List Byte) :
    readFrame limit (before ++ 0xA5#8 :: after) = readBody limit after := by
  have skipped : (before ++ 0xA5#8 :: after).dropWhile (· != frameMarker) = 0xA5#8 :: after := by
    rw [List.dropWhile_append_of_pos (by simpa [frameMarker] using clean)]
    rfl
  rw [readFrame, skipped]

theorem readFrame_of_clean {line : List Byte} (clean : ∀ b ∈ line, b ≠ 0xA5#8) (limit : Nat) :
    readFrame limit line = .noMarker := by
  have skipped : line.dropWhile (· != frameMarker) = [] := by
    rw [List.dropWhile_eq_nil_iff]
    simpa [frameMarker] using clean
  rw [readFrame, skipped]

/-- A body with its check bytes: the check value decides. -/
theorem readBody_whole {limit : Nat} {payload : List Byte} (fits : payload.length ≤ limit) (short : payload.length ≤ 255)
    (t hi lo : Byte) (rest : List Byte) :
    readBody limit (BitVec.ofNat 8 payload.length :: t :: (payload ++ hi :: lo :: rest)) =
      if crc16 (BitVec.ofNat 8 payload.length :: t :: payload) = hi ++ lo then .frame t payload rest
      else .failed (some t) (BitVec.ofNat 8 payload.length :: t :: (payload ++ hi :: lo :: rest)) := by
  have length : (BitVec.ofNat 8 payload.length).toNat = payload.length := by
    rw [BitVec.toNat_ofNat]
    exact Nat.mod_eq_of_lt (by omega)
  simp only [readBody, length, List.drop_left, List.take_left, if_neg (Nat.not_lt.mpr fits), be16]

/-- A body that exceeds the limit or is cut off fails. -/
theorem readBody_cut {limit : Nat} {n : Byte} {rest : List Byte} (bad : limit < n.toNat ∨ rest.length < n.toNat + 2)
    (t : Byte) : readBody limit (n :: t :: rest) = .failed (some t) (n :: t :: rest) := by
  simp only [readBody]
  split
  next hi lo more left =>
    have long := congrArg List.length left
    simp only [List.length_drop, List.length_cons] at long
    rw [if_pos (bad.resolve_right (by omega))]
  next => rfl

theorem extract_hi (v : BitVec 16) : v.extractLsb' 8 8 = BitVec.ofNat 8 (v.toNat / 256) := by
  apply BitVec.eq_of_toNat_eq
  simp [BitVec.extractLsb'_toNat, Nat.shiftRight_eq_div_pow]

theorem extract_lo (v : BitVec 16) : v.extractLsb' 0 8 = BitVec.ofNat 8 v.toNat := by
  apply BitVec.eq_of_toNat_eq
  simp [BitVec.extractLsb'_toNat]

theorem check_bytes (v : BitVec 16) : (BitVec.ofNat 8 (v.toNat / 256) ++ BitVec.ofNat 8 v.toNat : BitVec 16) = v := by
  rw [← extract_hi, ← extract_lo]
  have joined := BitVec.extractLsb'_append_extractLsb'_eq_extractLsb' (x := v) (start₁ := 0) (start₂ := 8) (len₁ := 8)
    (len₂ := 8) rfl
  exact joined.trans BitVec.extractLsb'_eq_self

theorem buildFrame_eq (t : Byte) (payload : List Byte) : buildFrame t payload =
    0xA5#8 :: (BitVec.ofNat 8 payload.length :: t :: payload) ++
      [BitVec.ofNat 8 ((crc16 (BitVec.ofNat 8 payload.length :: t :: payload)).toNat / 256),
        BitVec.ofNat 8 (crc16 (BitVec.ofNat 8 payload.length :: t :: payload)).toNat] := by
  simp only [buildFrame, bytes16, extract_hi, extract_lo]
  rfl

/-! ### The verdicts of a line -/

/-- A message that a row of its own takes, by its type code and its payload. -/
def TakenBy (kind : PortKind) (t : Byte) (body : List Byte) : Prop :=
  (kind = .writer ∧ (t.toNat = 1 ∧ 5 ≤ body.length ∨ t.toNat = 2 ∧ body.length = 4 ∨ t.toNat = 3 ∧ body ≠ [] ∨
    t.toNat = 4 ∨ t.toNat = 5)) ∨
  (kind = .script ∧ 0x10 ≤ t.toNat ∧ t.toNat ≤ 0x13 ∧ body ≠ [])

/-- The row that takes a type code. -/
theorem acceptedOn_taken_iff (kind : PortKind) (t : Byte) (body : List Byte) :
    (∃ x, contributorType t = some x ∧ x.acceptedOn kind = true ∧ x.tooShort body = false) ↔ TakenBy kind t body := by
  unfold contributorType
  split
  case h_10 n1 n2 n3 n4 n5 n16 n17 n18 n19 =>
    refine ⟨fun ⟨_, no, _⟩ => (by cases no), fun taken => ?_⟩
    rcases taken with ⟨-, ⟨h, -⟩ | ⟨h, -⟩ | ⟨h, -⟩ | h | h⟩ | ⟨-, low, high, -⟩
    · exact absurd h n1
    · exact absurd h n2
    · exact absurd h n3
    · exact absurd h n4
    · exact absurd h n5
    · generalize t.toNat = n at *
      interval_cases n
      · exact absurd rfl n16
      · exact absurd rfl n17
      · exact absurd rfl n18
      · exact absurd rfl n19
  all_goals
    next code =>
      cases kind <;> simp [code, TakenBy, ContributorType.acceptedOn, ContributorType.tooShort]

theorem judgeFrame_eq (kind : PortKind) (t : Byte) (body rest : List Byte) [Decidable (TakenBy kind t body)] :
    judgeFrame kind (.frame t body rest) = if TakenBy kind t body then .taken else .notTaken := by
  rw [judgeFrame]
  rcases known : contributorType t with _ | x
  · have no : ¬ TakenBy kind t body := fun taken => by
      obtain ⟨x, some, -⟩ := (acceptedOn_taken_iff kind t body).mpr taken
      cases known.symm.trans some
    rw [if_neg no]
  · have yes : (x.acceptedOn kind && !x.tooShort body) = true ↔ TakenBy kind t body := by
      rw [← acceptedOn_taken_iff, known]
      simp
    exact if_congr yes rfl rfl

theorem State.contributorFailure_line (s : State) (p : Port) (raw : List Byte) :
    s.contributorFailure p raw =
      if judgeFrame (s.port p).par.kind (readFrame 96 raw) = .taken then s
      else (lineVerdicts (s.port p).par.kind (readFrame 96 raw).rest).foldl (State.lineFailure p)
        (State.lineFailure p s (judgeFrame (s.port p).par.kind (readFrame 96 raw))) := by
  unfold State.contributorFailure
  rw [lineVerdicts_line]
  change List.foldl _ _ (if judgeFrame (s.port p).par.kind (readFrame 96 raw) = .taken then _ else _) = _
  split <;> rfl

/-- The kind of a port, and so what it makes of the rest of a line, does not change by a frame of the line. -/
theorem State.lineFailure_kind (s : State) (p : Port) (v : FrameVerdict) :
    ((State.lineFailure p s v).port p).par.kind = (s.port p).par.kind := by
  cases v with
  | taken => rfl
  | fails =>
    simp only [State.lineFailure, State.frameFails]
    split <;> simp
  | notTaken =>
    simp only [State.lineFailure]
    split <;> simp

/-- A frame that fails or is not taken, and the line behind it. -/
theorem State.contributorFailure_next {p : Port} {raw : List Byte} {v : FrameVerdict}
    (judged : judgeFrame (s.port p).par.kind (readFrame 96 raw) = v) (more : v ≠ .taken) :
    s.contributorFailure p raw =
      (State.lineFailure p s v).contributorFailure p (readFrame 96 raw).rest := by
  rw [State.contributorFailure_line, judged, if_neg more, State.contributorFailure, State.lineFailure_kind]

theorem State.contributorFailure_taken {p : Port} {raw : List Byte}
    (judged : judgeFrame (s.port p).par.kind (readFrame 96 raw) = .taken) : s.contributorFailure p raw = s := by
  rw [State.contributorFailure_line, if_pos judged]

/-- An UNUSED port makes nothing of a line. -/
theorem State.contributorFailure_unused {p : Port} (unused : (s.port p).par.kind = .unused) (raw : List Byte) :
    s.contributorFailure p raw = s := by
  unfold State.contributorFailure
  refine List.foldlRecOn (motive := fun u => u = s) _ _ rfl fun u hu v _ => ?_
  subst hu
  cases v with
  | taken => rfl
  | fails => exact if_pos unused
  | notTaken => simp [State.lineFailure, State.receives, unused]

end Sys2Proof.Machine

open Sys2Proof.Machine

/-- Settles O25: the reader by what stands behind the marker, the serial check value, and the rows of the table of messages by
the kind of port. -/
theorem framesByPortKind : Obligations.FramesByPortKind := by
  refine ⟨fun limit t payload before rest => ?_, ⟨rfl, fun bytes b => ?_⟩, fun s p raw payload count id cue => ?_⟩
  · intro body check
    refine ⟨buildFrame_eq t payload, fun clean => ⟨readFrame_of_clean clean limit, fun fits short => ⟨?_, fun hi lo wrong => ?_⟩,
      fun n bad => ?_, fun n => ?_, ?_⟩⟩
    · have line : before ++ buildFrame t payload ++ rest = before ++ 0xA5#8 :: (BitVec.ofNat 8 payload.length :: t ::
          (payload ++ BitVec.ofNat 8 (check.toNat / 256) :: BitVec.ofNat 8 check.toNat :: rest)) := by
        rw [buildFrame_eq]
        simp [check, body]
      rw [line, readFrame_of_marker clean, readBody_whole fits short, if_pos (check_bytes check).symm]
    · have line : before ++ 0xA5#8 :: body ++ hi :: lo :: rest = before ++ 0xA5#8 :: (BitVec.ofNat 8 payload.length :: t ::
          (payload ++ hi :: lo :: rest)) := by simp [body]
      rw [line, readFrame_of_marker clean, readBody_whole fits short, if_neg (Ne.symm wrong)]
      rfl
    · rw [readFrame_of_marker clean, readBody_cut bad]
    · rw [readFrame_of_marker clean]
      rfl
    · rw [readFrame_of_marker clean]
      rfl
  · rw [crc16, crc16, List.foldl_append, List.foldl_cons, List.foldl_nil, crcByte_serial]
  · intro kind erred type taken
    refine ⟨fun unused c mem => ?_, fun used => ⟨fun t rest failed => ?_, fun t body rest framed => ?_, fun quiet => ?_⟩,
      fun used long => ?_, fun config short c mem => ?_, fun run script short c mem => ?_, fun run writer c mem => ?_⟩
    · have none : (s.port p).par.kind = .unused := unused
      have bytes (x : ContributorType) (act : State → Option State) : s.receiveBytes p x payload act = s := by
        simp [State.receiveBytes, State.frameFails, none, State.receive_unused none]
      simp only [List.mem_cons, List.not_mem_nil, or_false] at mem
      rcases mem with rfl | rfl | rfl | rfl | rfl | rfl | rfl | rfl | rfl | rfl
      · exact congrArg _ (State.contributorFailure_unused none raw)
      · exact congrArg _ (bytes _ _)
      · exact congrArg _ (State.receive_unused none)
      · exact congrArg _ (bytes _ _)
      all_goals exact congrArg _ (State.receive_unused none)
    · have fails : judgeFrame (s.port p).par.kind (readFrame 96 raw) = .fails := by rw [failed]; rfl
      have counted : State.lineFailure p s .fails = s.raise (portEvent .linkErrors p) := if_neg used
      simp only [exec, execContributorFrameFailure]
      rw [State.contributorFailure_next fails (by simp), failed, counted]
      rfl
    · classical
      have judged : judgeFrame (s.port p).par.kind (readFrame 96 raw) =
          if TakenBy (s.port p).par.kind t body then .taken else .notTaken := by rw [framed, judgeFrame_eq]
      refine ⟨fun row => ?_, fun other run => ?_, fun other config => ?_⟩
      · exact congrArg _ (State.contributorFailure_taken (judged.trans (if_pos row)))
      · have heard : State.lineFailure p s .notTaken = erred := if_pos (State.receives_of_run run used)
        simp only [exec, execContributorFrameFailure]
        rw [State.contributorFailure_next (judged.trans (if_neg other)) (by simp), framed, heard]
        rfl
      · have deaf : State.lineFailure p s .notTaken = s :=
          if_neg (by simp [State.receives, State.running, config])
        simp only [exec, execContributorFrameFailure]
        rw [State.contributorFailure_next (judged.trans (if_neg other)) (by simp), framed, deaf]
        rfl
    · exact congrArg _ (State.contributorFailure_taken (by rw [quiet]; rfl))
    · have failing (x : ContributorType) (act : State → Option State) :
          s.receiveBytes p x payload act = s.raise (portEvent .linkErrors p) :=
        (if_pos long).trans (if_neg used)
      exact ⟨congrArg _ (failing _ _), congrArg _ (failing _ _)⟩
    · have ignored (x : ContributorType) (act : State → Option State) : s.receive p x act = s :=
        State.receive_config config
      have bytes (x : ContributorType) (act : State → Option State) : s.receiveBytes p x payload act = s :=
        (State.receiveBytes_short short).trans (ignored x act)
      simp only [List.mem_cons, List.not_mem_nil, or_false] at mem
      rcases mem with rfl | rfl | rfl | rfl | rfl | rfl | rfl | rfl | rfl
      · exact congrArg _ (bytes _ _)
      · exact congrArg _ (ignored _ _)
      · exact congrArg _ (bytes _ _)
      all_goals exact congrArg _ (ignored _ _)
    · have script' : (s.port p).par.kind = .script := script
      have refused (x : ContributorType) (act : State → Option State) (no : x.acceptedOn .script = false) :
          s.receive p x act = erred := State.receive_refused run (by rw [script']; simp) (by rw [script']; exact no)
      simp only [List.mem_cons, List.not_mem_nil, or_false] at mem
      rcases mem with rfl | rfl | rfl | rfl | rfl
      · exact congrArg _ ((State.receiveBytes_short short).trans (refused _ _ rfl))
      · exact congrArg _ (refused _ _ rfl)
      · exact congrArg _ ((State.receiveBytes_short short).trans (refused _ _ rfl))
      · exact congrArg _ (refused _ _ rfl)
      · exact congrArg _ (refused _ _ rfl)
    · have writer' : (s.port p).par.kind = .writer := writer
      have refused (x : ContributorType) (act : State → Option State) (no : x.acceptedOn .writer = false) :
          s.receive p x act = erred := State.receive_refused run (by rw [writer']; simp) (by rw [writer']; exact no)
      simp only [List.mem_cons, List.not_mem_nil, or_false] at mem
      rcases mem with rfl | rfl | rfl | rfl
      all_goals exact congrArg _ (refused _ _ rfl)

end

section
set_option Elab.async false
/-! SUPPORT. Fan-out and placement of an accepted word (spec/03 R55, spec/04 R57 to R67), and the close of a cue (spec/05 R83 to
R91) stage by stage. -/

namespace Sys2Proof.Machine

variable {s t : State}

/-! ### The cut test -/

theorem SwitchBody.leavesLive_iff (b : SwitchBody) : b.leavesLive = true ↔ b = .brk ∨ ∃ id x, b = .package id x := by
  cases b <;> simp [SwitchBody.leavesLive]

theorem not_later_iff (b a : Smc) : later b a = false ↔ (b - a).toInt ≤ 0 := by
  rw [← Bool.not_eq_true, later_iff, not_lt]

theorem ServiceState.cutTest_iff (v : ServiceState) (p : Smc) : v.cutTest p = true ↔
    (∃ e ∈ v.switches, (e.body = .brk ∨ ∃ id x, e.body = .package id x) ∧ (e.switch - p).toInt ≤ 0) ∨
      (v.kindInForce ≠ .live ∧ ¬ ∃ e ∈ v.switches, e.body = .live ∧ (e.switch - p).toInt ≤ 0) := by
  have behind (b : Smc) : (!later b p) = true ↔ (b - p).toInt ≤ 0 := by rw [Bool.not_eq_true', not_later_iff]
  rw [ServiceState.cutTest, Bool.or_eq_true, Bool.and_eq_true, List.any_eq_true, bne_iff_ne, Bool.not_eq_true',
    ← Bool.not_eq_true, List.any_eq_true]
  simp only [Bool.and_eq_true, SwitchBody.leavesLive_iff, behind, beq_iff_eq]

theorem State.closeCuts_of_some {k : Service} {o : OpenCue} (opened : (s.service k).openCue = some o) :
    s.closeCuts k = (s.service k).cutTest (timeCue s.ref (s.service k) o.body s.ref.smc).record.present := by
  simp only [State.closeCuts, State.timeOpen, opened, Option.map_some]
  rfl

theorem State.closeCuts_of_none {k : Service} (none : (s.service k).openCue = none) : s.closeCuts k = false := by
  simp [State.closeCuts, State.timeOpen, none]

/-! ### The previous cue -/

theorem ServiceState.previous_of_tail {v : ServiceState} {c : CueRecord} (tail : v.queue.getLast? = some c) :
    v.previous = some (c.present, c.reading) := by
  rw [ServiceState.previous, tail]

theorem ServiceState.previous_of_committed {v : ServiceState} {c : Committed} (empty : v.queue = [])
    (committed : v.committed = some c) : v.previous = some c.source.timing := by
  simp [ServiceState.previous, empty, committed]

theorem ServiceState.previous_of_display {v : ServiceState} (empty : v.queue = []) (none : v.committed = none) :
    v.previous = v.display.record?.map fun r => (laterOf r.present r.shown, r.hold) := by
  simp [ServiceState.previous, empty, none]

theorem laterOf_eq (a b : Smc) : laterOf a b = if 0 < (b - a).toInt then b else a :=
  if_congr (later_iff b a) rfl rfl

/-! ### Fan-out -/

theorem ServiceState.admits_eq (v : ServiceState) (e : Smc) : v.admits e =
    match v.lastChange with
    | some x => if (e - x).toInt < 0 then decide (v.segPrevious = .live) else decide (v.segCurrent = .live)
    | none => decide (v.segCurrent = .live) := by
  unfold ServiceState.admits
  rcases v.lastChange with _ | x
  · rfl
  · exact if_congr (earlier_iff e x) rfl rfl

theorem State.routed_eq (s : State) (g : Group) :
    s.routed g = allServices.filter fun k => decide ((s.service k).liveRoute = some g) := by
  refine congrArg (allServices.filter ·) (funext fun k => ?_)
  rw [Bool.eq_iff_iff, beq_iff_eq, decide_eq_true_iff]

/-- The judgement of a word by each routed service raises an event and moves no service. -/
theorem State.foldl_admitEvent (p : Port) (e : Smc) (live : Service → Bool) (ks : List Service) (t : State)
    (same : ∀ k, (t.service k).admits e = live k) :
    ks.foldl (State.admitEvent p e) t = ks.foldl (fun t k => t.raise (if live k then ⟨.wordAccepted, some p, some k, none, 0⟩
      else ⟨.wordDropped, some p, some k, some .segment, 0⟩)) t := by
  induction ks generalizing t with
  | nil => rfl
  | cons k ks ih =>
    have judged : State.admitEvent p e t k = t.raise (if live k then ⟨.wordAccepted, some p, some k, none, 0⟩
        else ⟨.wordDropped, some p, some k, some .segment, 0⟩) := by
      rw [State.admitEvent, same]
      exact (apply_ite t.raise _ _ _).symm
    rw [List.foldl_cons, List.foldl_cons, judged]
    exact ih _ fun l => by rw [State.raise_service]; exact same l

theorem State.fanOut_of_routed {p : Port} {g : Group} {a : AdmittedWord} (some : s.routed g ≠ []) :
    s.fanOut p g a = ((s.routed g).foldl (State.admitEvent p a.word.speech) s).assemble p a
      ((s.routed g).filter fun k => (s.service k).admits a.word.speech) := by
  unfold State.fanOut
  split
  next none => exact absurd none some
  next => rfl

theorem State.assemble_of_admitted {p : Port} {a : AdmittedWord} {ks : List Service} (some : ks ≠ []) :
    s.assemble p a ks = (State.placeAll a ks s).1.joinHistory p (State.placeAll a ks s).2 := by
  unfold State.assemble
  split
  next => exact absurd rfl some
  next => rfl

/-! ### Placement -/

/-- The empty cue that a service opens now. -/
theorem State.openOrNew_of_none {k : Service} (none : (s.service k).openCue = none) (mark : Bool) :
    s.openOrNew k mark = s.openBody k mark := by
  rw [State.openOrNew, none]

theorem State.openOrNew_of_some {k : Service} {o : OpenCue} (opened : (s.service k).openCue = some o) (mark : Bool) :
    s.openOrNew k mark = (s, o.body) := by
  rw [State.openOrNew, opened]

/-- An empty cue takes any word. -/
theorem State.newBody_fit (s : State) (k : Service) (mark : Bool) (m : Nat) : (s.openBody k mark).2.fit m ≠ .overflow := by
  simp [State.openBody, ServiceState.newBody, CueBody.fit]

/-- A word placed where no cue is open, after the close that a speaker change asks for. -/
theorem State.placeIn_of_none {k : Service} {a : AdmittedWord} (none : ((s.turn k a).service k).openCue = none) :
    s.placeIn k a = ((s.turn k a).openBody k a.speakerChange).1.putWord k
      ((s.turn k a).openBody k a.speakerChange).2 a := by
  have opened : s.placeIn k a =
      if ((s.turn k a).openOrNew k a.speakerChange).2.fit a.word.text.length = .overflow then _ else
        ((s.turn k a).openOrNew k a.speakerChange).1.putWord k ((s.turn k a).openOrNew k a.speakerChange).2 a := rfl
  rw [opened, State.openOrNew_of_none none, if_neg (State.newBody_fit _ k _ _)]

theorem State.putWord_eq (s : State) (k : Service) (b : CueBody) (a : AdmittedWord) (c : CueBody) (row pos : Nat)
    (put : b.put (b.fit a.word.text.length) (a.word.cutTo b.width) = c)
    (place : c.restingPlace (b.fit a.word.text.length) = (row, pos)) :
    s.putWord k b a =
      let t := s.setService k
        { s.service k with openCue := some ⟨c, s.now, plus s.now (s.service k).par.idleClose⟩ }
      (if a.sentenceEnd && c.sentenceFull then t.closeCue k else t,
        ⟨k, c.id, row, pos, if a.sentenceEnd && c.sentenceFull && t.closeCuts k then .gone else .amendable⟩) := by
  simp only [State.putWord, put, place]

end Sys2Proof.Machine

open Sys2Proof.Machine

/-- Settles O38: the services in turn, the fit rule, and the sentence-end test. -/
theorem wordPlaced : Obligations.WordPlaced := by
  refine ⟨fun s p g a => ?fan, fun s a => ⟨rfl, fun k ks => rfl⟩, fun s k a => ?place, fun b m => ?fit,
    fun s k b a => ?put, fun s k o opened => ?cuts⟩
  case fan =>
    intro routed live judged admitted
    have routed_eq : s.routed g = routed := s.routed_eq g
    have live_eq : (fun k => (s.service k).admits a.word.speech) = live := funext fun k => (s.service k).admits_eq _
    have judge : routed.foldl (State.admitEvent p a.word.speech) s = judged := by
      have judges := State.foldl_admitEvent p a.word.speech live routed s fun k => congrFun live_eq k
      exact judges
    refine ⟨fun none => ?_, fun some nobody => ?_, fun some => ?_⟩
    · rw [State.fanOut, routed_eq, none]
      rfl
    · rw [State.fanOut_of_routed (by rw [routed_eq]; exact some), routed_eq, live_eq, judge,
        show routed.filter live = [] from nobody]
      rfl
    · intro r
      have reached : routed ≠ [] := fun none => some (by simp [admitted, none])
      rw [State.fanOut_of_routed (by rw [routed_eq]; exact reached), routed_eq, live_eq, judge,
        State.assemble_of_admitted some, State.joinHistory, keepNewest, List.length_append, List.length_singleton]
  case place =>
    intro counted opened closed
    have closes : (closed.service k).openCue = none := (s.closeCue_service k).2
    refine ⟨fun none => ?_, fun o some => ⟨fun turn => ?_, fun stay full => ?_, fun stay fits => ?_⟩⟩
    · have same : s.turn k a = s := by
        unfold State.turn
        split
        · exact State.closeCue_of_none none
        · rfl
      rw [State.placeIn_of_none (by rw [same]; exact none), same]
      rfl
    · have same : s.turn k a = closed := if_pos turn
      rw [State.placeIn_of_none (by rw [same]; exact closes), same, turn]
      rfl
    all_goals
      have same : s.turn k a = s := if_neg (by simp [stay])
      have placed : s.placeIn k a =
          if ((s.turn k a).openOrNew k a.speakerChange).2.fit a.word.text.length = .overflow then
            ((((s.turn k a).openOrNew k a.speakerChange).1.closeCue k).openBody k false).1.putWord k
              ((((s.turn k a).openOrNew k a.speakerChange).1.closeCue k).openBody k false).2 a
          else ((s.turn k a).openOrNew k a.speakerChange).1.putWord k ((s.turn k a).openOrNew k a.speakerChange).2 a := rfl
      rw [placed, same, State.openOrNew_of_some some]
    · exact if_pos full
    · exact if_neg fits
  case fit =>
    refine ⟨fun empty => if_pos empty, fun some none => ⟨fun room => ?_, fun wide => ?_⟩, fun some some' => ?_⟩
    · simp [CueBody.fit, some, none, room]
    · simp [CueBody.fit, some, none, Nat.not_le.mpr wide]
    · simp [CueBody.fit, some, some']
  case put =>
    intro w put
    have settle (c : CueBody) (row pos : Nat) (width : c.width = b.width) (name : c.id = b.id)
        (puts : b.put (b.fit a.word.text.length) (a.word.cutTo b.width) = c)
        (rests : c.restingPlace (b.fit a.word.text.length) = (row, pos)) : put c row pos := by
      have placed := s.putWord_eq k b a c row pos puts rests
      refine ⟨fun stays => ?_, fun ends full => ?_⟩
      · have no : (a.sentenceEnd && c.sentenceFull) = false := by
          rcases stays with h | h
          · rw [h, Bool.false_and]
          · have : c.sentenceFull = false := decide_eq_false (by rw [width]; exact Nat.not_le.mpr h)
            rw [this, Bool.and_false]
        rw [placed, no, name]
        rfl
      · have yes : (a.sentenceEnd && c.sentenceFull) = true := by
          rw [ends, Bool.true_and]
          exact decide_eq_true (by rw [width]; exact full)
        rw [placed, yes, name]
        rfl
    refine ⟨fun first => ?_, fun second => ?_⟩
    · exact settle _ _ _ rfl rfl (by rw [first]; rfl) (by rw [first]; simp [CueBody.restingPlace])
    · exact settle _ _ _ rfl rfl (by rw [second]; rfl) (by rw [second]; simp [CueBody.restingPlace])
  case cuts =>
    intro v time
    rw [State.closeCuts_of_some opened]
    exact v.cutTest_iff time

/-- Settles O41, stage by stage. -/
theorem cueClose : Obligations.CueClose := by
  refine ⟨fun s k none => ⟨?_, State.closeCue_of_none none, State.closeCuts_of_none none⟩, fun s k o opened => ⟨fun ahead => ?_, fun past => ?_, ?_⟩, fun v => ?_⟩
  · simp [exec, execIdleDeadlineExpiry, State.expireIdle, none]
  · simp only [exec, execIdleDeadlineExpiry, State.expireIdle, opened]
    exact congrArg _ (if_neg (by rw [reached_iff]; exact not_le.mpr ahead))
  · simp only [exec, execIdleDeadlineExpiry, State.expireIdle, opened]
    exact congrArg _ (if_pos ((reached_iff _ _).mpr past))
  · intro v num max n start target limit t1 hold t2 t3 time late held reading lateness cut closed phase
    have hold_eq : v.holdLimit = hold := by
      simp only [ServiceState.holdLimit, hold]
      rcases v.previous with _ | ⟨x, d⟩
      · rfl
      · cases phase : v.phase <;> simp only [ServiceState.holdFor, phase, Option.map_some] <;> rfl
    have max_eq (a b : Sys2Proof.Smc) : laterOf a b = max a b := laterOf_eq a b
    have timed : timeCue s.ref v o.body s.ref.smc =
        ⟨⟨o.body, s.ref.smc, reading, time, lateness, late, held⟩, v.cutTest time⟩ := by
      simp only [timeCue, hold_eq, max_eq]
      rfl
    have tested : v.cutTest time = true ↔ cut := v.cutTest_iff time
    have closes := State.closeCue_of_some opened timed.symm
    refine ⟨?_, fun cuts => ?_, fun stays => ?_⟩
    · rw [State.closeCuts_of_some opened, timed]
      exact tested
    · rw [closes, State.settleTimed_of_cut k (tested.mpr cuts)]
      rfl
    · rw [closes, State.settleTimed_of_kept (Bool.eq_false_iff.mpr (mt tested.mp stays))]
      have settled := State.closing_setService s k
        ⟨⟨o.body, s.ref.smc, reading, time, lateness, late, held⟩, v.cutTest time⟩ { v with openCue := none }
        (v.closed ⟨⟨o.body, s.ref.smc, reading, time, lateness, late, held⟩, v.cutTest time⟩)
      rw [← settled]
      rfl
  · refine ⟨fun c tail => ServiceState.previous_of_tail tail, fun empty => ⟨fun c committed => ?_, fun none => ⟨fun blank => ?_, fun r showing => ?_⟩⟩⟩
    · refine ⟨fun x live => ?_, fun x prepared => ?_⟩
      · rw [ServiceState.previous_of_committed empty committed, live]
        rfl
      · rw [ServiceState.previous_of_committed empty committed, prepared]
        rfl
    · rw [ServiceState.previous_of_display empty none, blank]
      rfl
    · rw [ServiceState.previous_of_display empty none, showing]
      simp only [Display.record?, Option.map_some, laterOf_eq]

end

section
set_option Elab.async false
/-! SUPPORT. RETRACT (spec/04 R72, R73): the loop back through a history, with what a removal leaves of the histories' names. -/

namespace Sys2Proof.Machine

variable {s t : State}

/-! ### What a removal leaves of a history -/

/-- What a retract history says of a word besides its place in its cue: service, cue and state of each placement. -/
def historyNames (l : List HistoryEntry) : List (List (Service × CueId × PlacementState)) :=
  l.map fun e => e.map fun y => (y.service, y.cue, y.state)

/-- An entry, by its names, holds a COMMITTED placement. -/
def Committed? (e : List (Service × CueId × PlacementState)) : Prop := ∃ y ∈ e, y.2.2 = .committed

theorem committed_names (e : HistoryEntry) :
    Committed? (e.map fun y => (y.service, y.cue, y.state)) ↔ ∃ y ∈ e, y.state = .committed := by
  simp [Committed?]

theorem historyNames_map {f : Placement → Placement}
    (keeps : ∀ y, (f y).service = y.service ∧ (f y).cue = y.cue ∧ (f y).state = y.state) (l : List HistoryEntry) :
    historyNames (l.map fun e => e.map f) = historyNames l := by
  simp only [historyNames, List.map_map]
  refine List.map_congr_left fun e _ => ?_
  simp only [Function.comp, List.map_map]
  refine List.map_congr_left fun y _ => ?_
  obtain ⟨h1, h2, h3⟩ := keeps y
  simp [h1, h2, h3]

theorem Placement.renumber_eq (y : Placement) (b c : CueBody) (i : Nat) :
    y.renumber b c i =
      let j := b.flatIndex y.row y.pos
      let j' := if i < j then j - 1 else j
      { y with
        row := if j' < c.row1.length then 1 else 2
        pos := if j' < c.row1.length then j' + 1 else j' - c.row1.length + 1 } := by
  unfold Placement.renumber
  generalize b.flatIndex y.row y.pos = j
  dsimp only
  generalize (if i < j then j - 1 else j) = j'
  by_cases first : j' < c.row1.length
  · simp only [if_pos first]
  · simp only [if_neg first]

theorem Placement.renumber_keeps (y : Placement) (b c : CueBody) (i : Nat) :
    (y.renumber b c i).service = y.service ∧ (y.renumber b c i).cue = y.cue ∧ (y.renumber b c i).state = y.state := by
  rw [Placement.renumber_eq]
  exact ⟨rfl, rfl, rfl⟩

theorem State.removePlaced_names (s : State) (x : Placement) (p : Port) :
    historyNames ((s.removePlaced x).port p).history = historyNames (s.port p).history := by
  unfold State.removePlaced
  split
  · rfl
  · simp only [State.renumberCue, State.mapPlacements_port, State.setService_port]
    refine historyNames_map (fun y => ?_) _
    split
    · exact y.renumber_keeps _ _ _
    · exact ⟨rfl, rfl, rfl⟩

theorem State.withdraw_names (s : State) (e : HistoryEntry) (p : Port) :
    historyNames ((s.withdraw e).port p).history = historyNames (s.port p).history := by
  unfold State.withdraw
  refine List.foldlRecOn (motive := fun t : State => historyNames (t.port p).history = historyNames (s.port p).history) _ _ rfl
    fun t ht x _ => ?_
  split
  · exact (t.removePlaced_names x p).trans ht
  · exact ht

/-! ### The loop -/

/-- What the loop has done, by the names of the history it began with: of its `n` newest entries, none COMMITTED, it took
each, for at most `k`. -/
structure Retracted (k r : Nat) (names : List (List (Service × CueId × PlacementState))) (s : State) (p : Port)
    (e : RetractEnd) (n : Nat) : Prop where
  removed : e.removed = r + n
  most : n ≤ k
  length : n ≤ names.length
  all : e.reason = .none ↔ n = k
  noHistory : e.reason = .noHistory → n = names.length
  tooLate : e.reason = .tooLate → ∃ x, (names.take (names.length - n)).getLast? = some x ∧ Committed? x
  free : ∀ x ∈ names.drop (names.length - n), ¬ Committed? x
  history : historyNames (e.state.port p).history = names.take (names.length - n)

theorem State.retractLoop_empty {p : Port} (h : (s.port p).history = []) (k r : Nat) :
    State.retractLoop p (k + 1) r s = ⟨s, r, .noHistory⟩ := by
  simp [State.retractLoop, h]

theorem State.retractLoop_tooLate {p : Port} {older : List HistoryEntry} {e : HistoryEntry}
    (h : (s.port p).history = older ++ [e]) (committed : ∃ y ∈ e, y.state = .committed) (k r : Nat) :
    State.retractLoop p (k + 1) r s = ⟨s, r, .tooLate⟩ := by
  have found : (e.any fun y => y.state == .committed) = true := by simpa using committed
  simp [State.retractLoop, h, found]

theorem State.retractLoop_takes {p : Port} {older : List HistoryEntry} {e : HistoryEntry}
    (h : (s.port p).history = older ++ [e]) (free : ∀ y ∈ e, y.state ≠ .committed) (k r : Nat) :
    State.retractLoop p (k + 1) r s =
      State.retractLoop p k (r + 1) ((s.setPort p { s.port p with history := older }).withdraw e) := by
  have none : (e.any fun y => y.state == .committed) = false := by simpa using free
  simp [State.retractLoop, h, none]

theorem State.retractLoop_spec (p : Port) (k r : Nat) (s : State) :
    ∃ n, Retracted k r (historyNames (s.port p).history) s p (State.retractLoop p k r s) n := by
  induction k generalizing r s with
  | zero =>
    exact ⟨0, rfl, le_rfl, Nat.zero_le _, by simp [State.retractLoop], by simp [State.retractLoop],
      by simp [State.retractLoop], by simp, by simp [State.retractLoop]⟩
  | succ k ih =>
    rcases List.eq_nil_or_concat (s.port p).history with empty | ⟨older, e, split⟩
    · rw [State.retractLoop_empty empty]
      exact ⟨0, rfl, Nat.zero_le _, Nat.zero_le _, by simp, by simp [empty, historyNames], by simp, by simp,
        by simp⟩
    · rw [List.concat_eq_append] at split
      have names : historyNames (s.port p).history =
          historyNames older ++ [e.map fun y => (y.service, y.cue, y.state)] := by rw [split]; simp [historyNames]
      by_cases committed : ∃ y ∈ e, y.state = .committed
      · rw [State.retractLoop_tooLate split committed]
        exact ⟨0, rfl, Nat.zero_le _, Nat.zero_le _, by simp, by simp,
          fun _ => ⟨_, by rw [names, Nat.sub_zero, List.take_length]; simp, (committed_names e).mpr committed⟩, by simp, by simp⟩
      · rw [State.retractLoop_takes split (by simpa using committed)]
        obtain ⟨n, done⟩ := ih (r + 1) ((s.setPort p { s.port p with history := older }).withdraw e)
        have left : historyNames (((s.setPort p { s.port p with history := older }).withdraw e).port p).history =
            historyNames older := by rw [State.withdraw_names]; simp
        rw [left] at done
        obtain ⟨removed, most, length, all, noHistory, tooLate, free, history⟩ := done
        have cut : (historyNames (s.port p).history).length - (n + 1) = (historyNames older).length - n := by
          rw [names, List.length_append, List.length_singleton]; omega
        have within : (historyNames older).length - n ≤ (historyNames older).length := Nat.sub_le _ _
        have takes : (historyNames (s.port p).history).take ((historyNames older).length - n) =
            (historyNames older).take ((historyNames older).length - n) := by
          rw [names, List.take_append_of_le_length within]
        refine ⟨n + 1, by rw [removed]; omega, by omega, ?_, by rw [all]; omega, fun h => ?_, fun h => ?_, ?_, ?_⟩
        · rw [names, List.length_append, List.length_singleton]; omega
        · rw [names, List.length_append, List.length_singleton, noHistory h]
        · rw [cut, takes]; exact tooLate h
        · rw [cut, names, List.drop_append_of_le_length within]
          intro x hx
          rcases List.mem_append.mp hx with old | new
          · exact free x old
          · rw [List.mem_singleton.mp new, committed_names]; exact committed
        · rw [cut, takes]; exact history

/-! ### The word of a placement removed -/

theorem CueBody.flatIndex_eq (b : CueBody) (row pos : Nat) :
    b.flatIndex row pos = if row = 1 then pos - 1 else b.row1.length + (pos - 1) := rfl

theorem queueWithout_of_ne {par : ServiceParams} {q : List CueRecord} {id : CueId} (i : Nat)
    (ne : ∀ y ∈ q, y.body.id ≠ id) : queueWithout par q id i = q := by
  unfold queueWithout
  rw [List.filterMap_congr (g := some) fun c hc => if_neg (ne c hc), List.filterMap_some]

theorem queueWithout_split {par : ServiceParams} {before after : List CueRecord} {c : CueRecord} {id : CueId} (i : Nat)
    (here : c.body.id = id) (ne : ∀ y ∈ before ++ after, y.body.id ≠ id) :
    queueWithout par (before ++ c :: after) id i =
      if (c.body.remove i).words = [] then before ++ after
      else before ++ { c with body := c.body.remove i, reading := readingTime par (c.body.remove i).count } :: after := by
  have front := queueWithout_of_ne (par := par) i fun y hy => ne y (List.mem_append_left _ hy)
  have back := queueWithout_of_ne (par := par) i fun y hy => ne y (List.mem_append_right _ hy)
  unfold queueWithout at front back ⊢
  rw [List.filterMap_append, front, List.filterMap_cons, if_pos here, back, CueRecord.without]
  split <;> rename_i h <;> split at h <;> simp_all

theorem find_split {before after : List CueRecord} {c : CueRecord} {id : CueId} (here : c.body.id = id)
    (ne : ∀ y ∈ before ++ after, y.body.id ≠ id) :
    (before ++ c :: after).find? (fun y => y.body.id == id) = some c := by
  rw [List.find?_append, List.find?_eq_none.mpr fun y hy => by simpa using ne y (List.mem_append_left _ hy)]
  simp [here]

theorem ServiceState.amendableCue_queued {v : ServiceState} {id : CueId} (other : ∀ o, v.openCue = some o → o.body.id ≠ id) :
    v.amendableCue id = (v.queue.find? fun c => c.body.id == id).map CueRecord.body := by
  unfold ServiceState.amendableCue
  split
  next o opened => exact if_neg (other o opened)
  next => rfl

theorem ServiceState.removeWord_queued {v : ServiceState} {id : CueId} (other : ∀ o, v.openCue = some o → o.body.id ≠ id)
    (i : Nat) : v.removeWord id i = { v with queue := queueWithout v.par v.queue id i } := by
  unfold ServiceState.removeWord
  split
  next o opened => exact if_neg (other o opened)
  next => rfl

theorem State.removePlaced_of_some {x : Placement} {b : CueBody}
    (found : (s.service x.service).amendableCue x.cue = some b) :
    s.removePlaced x = (s.setService x.service ((s.service x.service).removeWord x.cue (b.flatIndex x.row x.pos))).renumberCue
      x.service b (b.remove (b.flatIndex x.row x.pos)) (b.flatIndex x.row x.pos) := by
  rw [State.removePlaced, found]

end Sys2Proof.Machine

open Sys2Proof.Machine

/-- Settles O40: the loop by its steps and by the names of the history, and the removal by where the cue stands. -/
theorem retractAnswered : Obligations.RetractAnswered := by
  refine ⟨fun s p idle => ?idle, fun s p k arrival rest run free queue => ?take, fun s p r => ?loop, fun s p k => ?names,
    fun s x e => ⟨rfl, rfl⟩, fun s x => ?removal⟩
  case idle => simp only [exec, execRetractRecordTake, State.takeRetract, State.nextRecord_idle idle]
  case take =>
    have taken : s.nextRecord p = some (.retract k arrival) := by
      simp [State.nextRecord, State.running, run, State.paused, free, queue]
    simp only [exec, execRetractRecordTake, State.takeRetract, taken]
    rfl
  case loop =>
    exact ⟨rfl, fun k => ⟨fun empty => State.retractLoop_empty empty k r, fun older e split =>
      ⟨fun committed => State.retractLoop_tooLate split committed k r, fun free => State.retractLoop_takes split free k r⟩⟩⟩
  case names =>
    intro e history kept named
    obtain ⟨n, done⟩ := State.retractLoop_spec p k 0 s
    obtain ⟨removed, most, length, all, noHistory, tooLate, free, names⟩ := done
    have removed' : e.removed = n := removed.trans (Nat.zero_add n)
    have size : (historyNames (s.port p).history).length = history.length := List.length_map _
    have kept_eq : (historyNames (s.port p).history).length - n = kept := by rw [size, ← removed']
    have takes : (historyNames (s.port p).history).take kept = historyNames (history.take kept) := (List.map_take ..).symm
    have drops : (historyNames (s.port p).history).drop kept = historyNames (history.drop kept) := (List.map_drop ..).symm
    rw [kept_eq] at tooLate free names
    refine ⟨removed'.le.trans most, removed'.le.trans (size ▸ length), removed' ▸ all, fun h => ?_, fun h => ?_,
      fun x hx y hy committed => ?_, ?_, retractLoop_frame s p k 0⟩
    · rw [← kept_eq, noHistory h, Nat.sub_self]
    · obtain ⟨x, last, committed⟩ := tooLate h
      rw [takes, historyNames, List.getLast?_map] at last
      obtain ⟨x', last', rfl⟩ := Option.map_eq_some_iff.mp last
      exact ⟨x', last', (committed_names x').mp committed⟩
    · rw [drops] at free
      exact free _ (List.mem_map_of_mem hx) ((committed_names x).mpr ⟨y, hy, committed⟩)
    · exact names.trans takes
  case removal =>
    intro v place updated ends
    have renumbers (b : CueBody) (w : ServiceState) (named : b.id = x.cue)
        (found : v.amendableCue x.cue = some b) (removed : v.removeWord x.cue (place b x.row x.pos) = w) : ends b w := by
      have updates : (fun y : Placement => if y.follows x.service b.id then
          y.renumber b (b.remove (place b x.row x.pos)) (place b x.row x.pos) else y) = updated b := funext fun y => by
        have named_iff : y.follows x.service b.id = true ↔ y.service = x.service ∧ y.cue = x.cue ∧ y.state = .amendable := by
          rw [y.follows_iff, named]
        exact if_congr named_iff (y.renumber_eq _ _ _) rfl
      have replaced : s.setService x.service (v.removeWord x.cue (place b x.row x.pos)) = s.setService x.service w := by
        rw [removed]
      refine (State.removePlaced_of_some found).trans ?_
      exact (congrArg (State.renumberCue · x.service b _ _) replaced).trans (congrArg (State.mapPlacements _) updates)
    refine ⟨fun o opened named => ?_, fun before c after other queue named ne => ?_, fun other ne => ?_⟩
    · intro left
      refine renumbers o.body _ named ?_ ?_
      · simp [ServiceState.amendableCue, opened, named]
      · simp only [ServiceState.removeWord, opened, if_pos named]
        rfl
    · intro left n reading
      refine renumbers c.body _ named ?_ ?_
      · rw [ServiceState.amendableCue_queued other, queue, find_split named ne]
        rfl
      · rw [ServiceState.removeWord_queued other, queue, queueWithout_split _ named ne]
        rfl
    · have none : v.amendableCue x.cue = none := by
        rw [ServiceState.amendableCue_queued other, List.find?_eq_none.mpr fun y hy => by simpa using ne y hy]
        rfl
      rw [State.removePlaced, none]

end

section
set_option Elab.async false
/-! SUPPORT. The output scheduler at one service: requests and sends (spec/07 R115 to R123), the frame of a SHOW (spec/12 R184),
captions in STRICT and WRR (R117 to R119), the inserter's answers with step 5 (R121 to R125), and bands and straps (spec/08). -/

namespace Sys2Proof.Machine

variable {s t : State}

/-! ### Requests made of a display -/

theorem State.expireClear_of_blank {k : Service} (blank : (s.service k).display = .blank) : s.expireClear k = s := by
  simp [State.expireClear, ServiceState.clearExpired, blank]

theorem State.expireClear_of_none {k : Service} {r : ShowRecord} (shown : (s.service k).display = .showing r)
    (none : r.clearDeadline = none) : s.expireClear k = s := by
  simp [State.expireClear, ServiceState.clearExpired, shown, none]

theorem State.expireClear_of_some {k : Service} {r : ShowRecord} {d : Smc} (shown : (s.service k).display = .showing r)
    (some : r.clearDeadline = some d) : s.expireClear k = if (s.ref.smc - d).toInt < 0 then s else
      s.setService k { s.service k with
        display := .showing { r with clearDeadline := Option.none }
        control := .clear } := by
  have expired : (s.service k).clearExpired s.now = !decide ((s.ref.smc - d).toInt < 0) := by
    simp only [ServiceState.clearExpired, shown, some]
    rfl
  rw [State.expireClear, expired]
  by_cases before : (s.ref.smc - d).toInt < 0
  · rw [if_pos before, decide_eq_true before]
    rfl
  · rw [if_neg before, decide_eq_false before, Bool.not_false, if_pos rfl, State.requestClear, State.service_setService, if_pos rfl,
      State.setService_setService, shown]
    rfl

theorem ServiceState.requestMove_eq {v : ServiceState} {r : ShowRecord} (shown : v.display = .showing r) (b : Band) :
    v.requestMove b = if v.control = .clear then v else { v with control := .move b } := by
  rcases pending : v.control with _ | _ | b <;> simp [ServiceState.requestMove, shown, pending]

/-! ### Sends -/

theorem State.setService_sendOutput (s : State) (k : Service) (x : ServiceState) (m : OutputMsg) :
    (s.sendOutput m).setService k x = (s.setService k x).sendOutput m := rfl

theorem State.sendControl_of_clear {k : Service} (pending : (s.service k).control = .clear) : s.sendControl k =
    (s.setService k { s.service k with display := .blank, control := .none }).sendOutput (.clear k) := by
  simp only [State.sendControl, pending]

theorem State.sendControl_of_move {k : Service} {b : Band} {r : ShowRecord} (pending : (s.service k).control = .move b)
    (shown : (s.service k).display = .showing r) : s.sendControl k =
    ((s.setService k { s.service k with
      display := .showing { r with band := b }
      control := .none }).sendOutput (.move k b)).raise (serviceEvent .moveSent k) := by
  simp only [State.sendControl, pending, shown]

theorem State.sendShow_of_live {k : Service} {c : Committed} {x : CueRecord} (live : c.source = .live x) : s.sendShow k c =
    let l := (s.ref.smc - (x.body.anchor + BitVec.ofNat 32 (s.service k).par.delay)).toInt
    let shown := ((s.setService k { s.service k with
      committed := none
      display := .showing ⟨x.body.id.toNat, none, c.band, s.ref.smc,
        some (s.ref.smc + BitVec.ofNat 32 (s.service k).par.maxHold), x.present, x.reading, some x.body.anchor, c.conflict⟩
      control := .none
      shownLateness := some l }).sendOutput
      (.showCue k x.body.id.toNat none c.band x.body.speaker x.body.truncated (rowText x.body.row1)
        (if x.body.row2 = [] then none else some (rowText x.body.row2)))).raise
          ⟨.latenessMs, none, some k, none, l.toNat⟩
    if c.mapChanged = true then shown.coverCheck k else shown := by
  simp only [State.sendShow, State.accountLateness, Committed.message, Committed.record, live, State.sendOutput_service,
    State.service_setService, if_pos, State.setService_sendOutput, State.setService_setService]
  rfl

theorem State.sendShow_of_prepared {k : Service} {c : Committed} {x : PreparedShow} (prepared : c.source = .prepared x) :
    s.sendShow k c =
    let shown := (s.setService k { s.service k with
      committed := none
      display := .showing ⟨x.position, some x.package, c.band, s.ref.smc,
        some (s.ref.smc + BitVec.ofNat 32 x.duration), x.present, x.duration, none, c.conflict⟩
      control := .none }).sendOutput
      (.showCue k x.position (some x.package) c.band x.speaker x.truncated x.row1 x.row2)
    if c.mapChanged = true then shown.coverCheck k else shown := by
  simp only [State.sendShow, State.accountLateness, Committed.message, Committed.record, prepared]
  rfl

/-! ### The bytes of a SHOW -/

theorem bytes16_ofNat (n : Nat) : bytes16 (BitVec.ofNat 16 n) = [byteOf (n / 256), byteOf n] := by
  simp only [bytes16, byteOf, List.cons.injEq, and_true]
  constructor
  · apply BitVec.eq_of_toNat_eq
    simp [Nat.shiftRight_eq_div_pow]
    omega
  · apply BitVec.eq_of_toNat_eq
    simp

theorem bytes16_eq (x : BitVec 16) : bytes16 x = [byteOf (x.toNat / 256), byteOf x.toNat] := by
  rw [← bytes16_ofNat, BitVec.ofNat_toNat, BitVec.setWidth_eq]

theorem showFlags_eq (a b : Bool) :
    showFlags a b = byteOf ((if a = true then 1 else 0) + (if b = true then 2 else 0)) := by
  cases a <;> cases b <;> rfl

/-! ### Accounting -/

theorem State.deferEvent_service (s : State) (k l : Service) : (s.deferEvent k).service l = s.service l := by
  simp [State.deferEvent]

theorem State.foldl_deferEvent (ks : List Service) (s t : State) (same : ∀ k, t.service k = s.service k) :
    ks.foldl State.deferEvent t = (ks.filter fun k => (s.service k).committed.isSome).foldl
      (fun u k => u.raise (serviceEvent .cueDeferred k)) t := by
  induction ks generalizing t with
  | nil => rfl
  | cons k ks ih =>
    rw [List.foldl_cons, ih _ fun l => (State.deferEvent_service t k l).trans (same l), List.filter_cons,
      State.deferEvent, same k]
    cases (s.service k).committed.isSome <;> rfl

theorem State.account_of_ready (ready : s.inserter = .ready) : s.account =
    { (allServices.filter fun k => (s.service k).par.enabled && (s.service k).committed.isSome).foldl
        (fun t k => t.raise (serviceEvent .cueDeferred k)) s with busyCount := 0 } := by
  rw [State.account, ready]
  simp only [State.foldl_deferEvent _ s s fun _ => rfl, State.enabledServices, List.filter_filter, Bool.and_comm]

theorem State.checkStall_eq {n : Nat} (counted : s.busyCount = n + 1) :
    s.checkStall = if n = 24 then s.setAlert .outputStalled none else s := by
  simp only [State.checkStall, counted, stallCount, Nat.reduceEqDiff]

theorem State.account_of_busy (busy : s.inserter = .busy) : s.account =
    let t := State.raise { s with busyCount := s.busyCount + 1 } (plainEvent .outputBusyFrames)
    if s.busyCount = 24 then t.setAlert .outputStalled none else t := by
  simp only [State.account, busy]
  exact State.checkStall_eq (State.raise_busyCount ..)

/-! ### Captions -/

theorem deficitMax_eq (x : Nat) : min deficitMax x = if 512 < x then 512 else x := by
  rw [deficitMax]
  split <;> omega

theorem Sending.strict_of_some {k : Service} {c : Committed} {left : Nat} (waits : (s.service k).committed = some c) :
    Sending.strict ⟨s, left⟩ k =
      if c.source.cost ≤ left then ⟨s.sendShow k c, left - c.source.cost⟩ else ⟨s, left⟩ := by
  simp only [Sending.strict, waits]

theorem Sending.wrr_of_some {k : Service} {c : Committed} {left raised : Nat} (waits : (s.service k).committed = some c)
    (raise : min deficitMax ((s.service k).deficit + 32 * (s.service k).par.weight) = raised) : Sending.wrr ⟨s, left⟩ k =
      if c.source.cost ≤ raised ∧ c.source.cost ≤ left then
        ⟨{ ((s.setDeficit k (raised - c.source.cost)).sendShow k c) with roundRobin := k }, left - c.source.cost⟩
      else ⟨s.setDeficit k raised, left⟩ := by
  simp only [Sending.wrr, waits, raise]

theorem CommittedSource.cost_eq (x : CommittedSource) : x.cost = match x with
    | .live c => 8 + (rowLength c.body.row1 + rowLength c.body.row2)
    | .prepared y => 8 + (y.row1.length + (y.row2.getD []).length) := by
  cases x <;> rfl

/-! ### Bands -/

theorem Band.meetsMap_iff (b : Band) (m : Per4 (Option Strap)) : b.meetsMap m = true ↔
    ∃ i x, m.get i = some x ∧ x.r1 ≤ b.top + b.height - 1 ∧ b.top ≤ x.r2 := by
  rw [Band.meetsMap, List.any_eq_true]
  constructor
  · rintro ⟨i, -, meets⟩
    rcases occupied : m.get i with _ | x <;> simp only [occupied, Band.meets] at meets
    · cases meets
    · exact ⟨i, x, occupied, by simpa using meets⟩
  · rintro ⟨i, x, occupied, low, high⟩
    exact ⟨i, by fin_cases i <;> simp [allServices], by simp [occupied, Band.meets, low, high]⟩

theorem State.coverCheck_of_clear {k : Service} {r : ShowRecord} (shown : (s.service k).display = .showing r)
    (clear : ¬ ((s.service k).heldBand r).meetsMap (s.service k).rowMap = true) : s.coverCheck k = s := by
  simp only [State.coverCheck, shown]
  exact if_neg clear

theorem State.coverCheck_of_meets {k : Service} {r : ShowRecord} (shown : (s.service k).display = .showing r)
    (meets : ((s.service k).heldBand r).meetsMap (s.service k).rowMap = true) : s.coverCheck k =
    let chosen := (s.service k).place r.band.height
    (s.setService k { s.service k with
      display := .showing { r with conflict := chosen.2 }
      control := if chosen.1 = (s.service k).heldBand r ∨ (s.service k).control = .clear then (s.service k).control
        else .move chosen.1 }).raiseIf (chosen.2 && !r.conflict) (serviceEvent .strapConflict k) := by
  simp only [State.coverCheck, shown]
  rw [if_pos meets]
  congr 2
  by_cases held : ((s.service k).place r.band.height).1 = (s.service k).heldBand r
  · rw [if_pos held, if_pos (.inl held)]
  · rw [if_neg held, ServiceState.requestMove_eq rfl]
    by_cases pending : (s.service k).control = .clear
    · rw [if_pos pending, if_pos (.inr pending)]
    · rw [if_neg pending, if_neg fun either => either.elim held pending]

end Sys2Proof.Machine

open Sys2Proof.Machine

/-- Settles O44, by what each display and each pending control makes of a request and of a send. -/
theorem displayRequestsAndSends : Obligations.DisplayRequestsAndSends := by
  intro s k v
  refine ⟨fun blank => ⟨?_, ?_, fun b => ?_⟩, fun r shown => ⟨fun none => ?_, fun d some => ⟨fun before => ?_,
    fun after => ?_⟩, ?_, ServiceState.requestMove_eq shown⟩, State.sendControl_of_clear, fun b r => State.sendControl_of_move,
    fun c x => State.sendShow_of_live, fun c x => State.sendShow_of_prepared, ?bytes⟩
  · exact congrArg _ (State.expireClear_of_blank blank)
  · simp [ServiceState.requestClear, v, blank]
  · simp [ServiceState.requestMove, v, blank]
  · exact congrArg _ (State.expireClear_of_none shown none)
  · exact congrArg _ ((State.expireClear_of_some shown some).trans (if_pos before))
  · exact congrArg _ ((State.expireClear_of_some shown some).trans (if_neg (by omega)))
  · simp [ServiceState.requestClear, v, shown]
  case bytes =>
    intro id source top speaker truncated row1 byte package flags payload
    have front : byteOf k.val :: bytes16 (BitVec.ofNat 16 id) ++ bytes16 (source.getD 0) =
        [byte k.val, byte (id / 256), byte id, byte (package / 256), byte package] := by
      rw [bytes16_ofNat, bytes16_eq]
      rfl
    refine ⟨?_, fun row2 => ?_⟩ <;>
      simp only [OutputMsg.frame, OutputMsg.payload, front, showFlags_eq, showRow2, Option.map_some, OutputMsg.type]
    all_goals simp [payload, flags, byte, byteOf]


/-- Settles O45: the answers set one field each, and step 5 goes by the state of the inserter. -/
theorem inserterAnswers : Obligations.InserterAnswers := fun _ =>
  ⟨rfl, rfl, rfl, rfl, fun stalled => congrArg _ (if_pos stalled), fun counts => congrArg _ (if_neg counts),
    State.account_of_busy, State.account_of_ready⟩

/-- Settles O47, by what steps 3 and 4 make of each service. -/
theorem captionsServed : Obligations.CaptionsServed := by
  refine ⟨fun s left => ?steps, fun s left k => ?control, fun s left k => ?captions⟩
  case steps =>
    intro enabled r
    refine ⟨fun busy => ⟨?_, ?_⟩, fun ready => ⟨?_, fun strict => ?_, fun wrr => ?_⟩⟩
    · simp only [Sending.controls, busy]
    · simp only [Sending.captions, busy]
    · simp only [Sending.controls, ready]
      rfl
    · simp only [Sending.captions, ready, strict]
      rfl
    · simp only [Sending.captions, ready, wrr]
      rfl
  case control =>
    intro v
    refine ⟨fun waits => ?_, fun free pending => ?_⟩
    · rw [Sending.control]
      exact if_neg (by simpa [v, or_iff_not_imp_left, Option.isNone_iff_eq_none] using waits)
    · exact if_pos (by simpa [v] using ⟨free, pending⟩)
  case captions =>
    intro v cost
    have costs (x : CommittedSource) : x.cost = cost x := x.cost_eq
    refine ⟨fun free => ⟨?_, ?_⟩, fun c waits => ?_⟩
    · simp only [Sending.strict, show (s.service k).committed = none from free]
    · simp only [Sending.wrr, show (s.service k).committed = none from free]
      rfl
    · refine ⟨fun fits => ?_, fun lacks => ?_, ?_⟩
      · rw [Sending.strict_of_some waits, costs, if_pos fits]
      · rw [Sending.strict_of_some waits, costs, if_neg (by omega)]
      intro raised
      refine ⟨fun earned fits => ?_, fun lacks => ?_⟩
      · rw [Sending.wrr_of_some waits (deficitMax_eq _), costs]
        exact if_pos ⟨earned, fits⟩
      · rw [Sending.wrr_of_some waits (deficitMax_eq _), costs]
        exact if_neg fun both => lacks.elim (not_lt_of_ge both.1) (not_lt_of_ge both.2)

/-- Settles O49: a band is chosen by the two that the row map leaves free, and the cover check asks for it. -/
theorem bandsAndStraps : Obligations.BandsAndStraps := by
  intro s k v meets
  have meet (b : Band) : b.meetsMap v.rowMap = true ↔ meets b := b.meetsMap_iff v.rowMap
  have clear (b : Band) (free : ¬ meets b) : (!b.meetsMap v.rowMap) = true := by
    rw [Bool.not_eq_true', ← Bool.not_eq_true, meet]
    exact free
  have covered (b : Band) (taken : meets b) : ¬ (!b.meetsMap v.rowMap) = true := by
    rw [(meet b).mpr taken]
    decide
  refine ⟨fun h => ?place, fun blank => ?_, fun r shown => ?check, fun slot => rfl, fun slot rows => rfl⟩
  case place =>
    intro base top
    have placed : v.place h = if !base.meetsMap v.rowMap then (base, false)
        else if !top.meetsMap v.rowMap then (top, false) else (base, true) := rfl
    refine ⟨fun free => ?_, fun taken free => ?_, fun taken both => ?_⟩
    · rw [placed, if_pos (clear _ free)]
    · rw [placed, if_neg (covered _ taken), if_pos (clear _ free)]
    · rw [placed, if_neg (covered _ taken), if_neg (covered _ both)]
  · simp only [State.coverCheck, show (s.service k).display = .blank from blank]
  case check =>
    intro held chosen
    exact ⟨fun free => State.coverCheck_of_clear shown fun m => free ((meet _).mp m),
      fun m => State.coverCheck_of_meets shown ((meet _).mpr m)⟩
end

section
set_option Elab.async false
/-! SUPPORT. The automation lists and what their entries do (spec/09 R141 to R152): where an entry joins, what expires, and the
equations of the four switches. -/

namespace Sys2Proof.Machine

variable {s t : State}

/-! ### Joining a list -/

theorem insertEvent_eq (e : PendingEvent) (l : List PendingEvent) : insertEvent e l =
    (l.takeWhile fun x => !later x.effect e.effect) ++ e :: l.dropWhile fun x => !later x.effect e.effect := by
  induction l with
  | nil => rfl
  | cons x l ih =>
    rw [insertEvent, List.takeWhile_cons, List.dropWhile_cons, ih]
    cases later x.effect e.effect <;> rfl

theorem insertSwitch_eq (e : SwitchEntry) (l : List SwitchEntry) : insertSwitch e l =
    (l.takeWhile fun x => !later x.switch e.switch) ++ e :: l.dropWhile fun x => !later x.switch e.switch := by
  induction l with
  | nil => rfl
  | cons x l ih =>
    rw [insertSwitch, List.takeWhile_cons, List.dropWhile_cons, ih]
    cases later x.switch e.switch <;> rfl

theorem takeWhile_not_later {α : Type} (time : α → Smc) (x : Smc) (l : List α) :
    ∀ a ∈ l.takeWhile fun a => !later (time a) x, (time a - x).toInt ≤ 0 := fun a member =>
  (not_later_iff _ _).mp (by simpa using List.mem_takeWhile_imp member)

theorem head_dropWhile_not_later {α : Type} (time : α → Smc) (x : Smc) (l : List α) (a : α)
    (first : (l.dropWhile fun a => !later (time a) x).head? = some a) : 0 < (time a - x).toInt := by
  have stops := List.head?_dropWhile_not (fun a => !later (time a) x) l
  rw [first] at stops
  exact (later_iff _ _).mp (by simpa using stops)

/-- An SMC that is not later than another is not earlier the other way round, but at the distance of exactly 2^31 ms. -/
theorem not_earlier_of_not_later {a b : Smc} (le : (a - b).toInt ≤ 0) : 0 ≤ (b - a).toInt ∨ b - a = 2147483648#32 := by
  by_cases far : b - a = 2147483648#32
  · exact .inr far
  · left
    have least : a - b ≠ BitVec.intMin 32 := fun same => far (by
      rw [← neg_sub, same]
      rfl)
    rw [← neg_sub, BitVec.toInt_neg_of_ne_intMin least]
    omega

theorem isChain_insert {α : Type} (time : α → Smc) (e : α) {before after : List α}
    (low : ∀ a ∈ before, (time a - time e).toInt ≤ 0)
    (high : ∀ a, after.head? = some a → 0 < (time a - time e).toInt)
    (chain : (before ++ after).IsChain fun a b => 0 ≤ (time b - time a).toInt) :
    ((before ++ e :: after).IsChain fun a b => 0 ≤ (time b - time a).toInt) ∨
      ∃ a ∈ before ++ after, time e - time a = 2147483648#32 := by
  obtain ⟨chainBefore, chainAfter, -⟩ := List.isChain_append.mp chain
  have behind : (e :: after).IsChain fun a b => 0 ≤ (time b - time a).toInt :=
    List.isChain_cons.mpr ⟨fun a first => (high a first).le, chainAfter⟩
  rcases last : before.getLast? with _ | a
  · left
    rw [List.getLast?_eq_none_iff.mp last]
    exact behind
  · have member := List.mem_of_getLast? last
    rcases not_earlier_of_not_later (low a member) with close | far
    · left
      refine List.isChain_append.mpr ⟨chainBefore, behind, fun x lastX y firstY => ?_⟩
      obtain rfl : a = x := Option.some.inj (last.symm.trans lastX)
      obtain rfl : e = y := Option.some.inj firstY
      exact close
    · exact .inr ⟨a, List.mem_append_left _ member, far⟩

/-! ### What expires -/

theorem decide_reached (now d : Smc) : decide (0 ≤ (now - d).toInt) = reached now d :=
  Bool.eq_iff_iff.mpr (decide_eq_true_iff.trans (reached_iff now d).symm)

/-! ### The end of a play, requests and cuts of a switch -/

theorem State.endPlay_of_cut {k : Service} {q : PlayPointer} {c : Committed} {x : PreparedShow}
    (plays : (s.service k).pointer = some q) (waits : (s.service k).committed = some c) (prepared : c.source = .prepared x)
    (same : x.package = q.package) : s.endPlay k =
      (s.setService k { s.service k with pointer := none, committed := none }).raise (serviceEvent .cueCut k) := by
  have isOf : c.isOf q.package = true := by simp [Committed.isOf, prepared, same]
  simp [State.endPlay, State.cutPrepared, State.cutCommitted, plays, waits, isOf]

theorem State.endPlay_of_kept {k : Service} {q : PlayPointer} (plays : (s.service k).pointer = some q)
    (other : ∀ c x, (s.service k).committed = some c → c.source = .prepared x → x.package ≠ q.package) :
    s.endPlay k = s.setService k { s.service k with pointer := none } := by
  rcases waits : (s.service k).committed with _ | c
  · simp [State.endPlay, State.cutPrepared, plays, waits]
  · have isOf : c.isOf q.package = false := by
      rcases source : c.source with x | x
      · simp [Committed.isOf, source]
      · simpa [Committed.isOf, source] using other c x waits source
    simp [State.endPlay, State.cutPrepared, plays, waits, isOf]

/-- What a switch leaves pending at a display that shows a prepared cue: CLEAR. -/
def ServiceState.clearedPrepared (v : ServiceState) : Control :=
  if (match v.display with | .blank => false | .showing r => r.source.isSome) then .clear else v.control

theorem State.clearPrepared_eq (s : State) (k : Service) : s.clearPrepared k =
    s.setService k { s.service k with control := (s.service k).clearedPrepared } := by
  by_cases prepared : ∃ r, (s.service k).display = .showing r ∧ r.source.isSome = true
  · obtain ⟨r, display, source⟩ := prepared
    have clears : (s.service k).clearedPrepared = .clear := by simp [ServiceState.clearedPrepared, display, source]
    simp only [State.clearPrepared, display, source, if_pos, clears, State.requestClear, ServiceState.requestClear]
  · have keeps : (s.service k).clearedPrepared = (s.service k).control ∧ s.clearPrepared k = s := by
      rcases display : (s.service k).display with _ | r
      · simp [ServiceState.clearedPrepared, State.clearPrepared, display]
      · have live : r.source.isSome = false := by simpa using fun source => prepared ⟨r, display, source⟩
        simp [ServiceState.clearedPrepared, State.clearPrepared, display, live]
    rw [keeps.1, keeps.2]
    exact (State.setService_service s k).symm

theorem ServiceState.fallBack_eq (v : ServiceState) (e : Smc) : v.fallBack e = { v with
    segCurrent := if v.lastChange = some e ∧ ∃ q, v.segCurrent = .package q then .live else v.segCurrent } := by
  cases v with
  | mk _ _ _ _ _ _ _ _ _ _ _ _ _ current _ last =>
    cases current with
    | package q => by_cases same : last = some e <;> simp [ServiceState.fallBack, same]
    | live => simp [ServiceState.fallBack]
    | brk => simp [ServiceState.fallBack]

/-- The queued cues and the committed live cue whose time lies at or behind a switch leave as cut (R106, R126). -/
def State.cutFrom (s : State) (k : Service) (x : Smc) : State := (s.cutQueue k x).cutLiveCommitted k x

theorem State.foldl_cut_service (k : Service) (l : List CueRecord) (s : State) (j : Service) :
    (l.foldl (fun u c => (u.markCue k c.body.id .gone).raise (serviceEvent .cueCut k)) s).service j = s.service j := by
  induction l generalizing s with
  | nil => rfl
  | cons c l ih => rw [List.foldl_cons, ih]; simp

theorem decide_not_earlier (a x : Smc) : decide (0 ≤ (a - x).toInt) = !earlier a x := by
  rw [earlier, elapsed, ← decide_not]
  exact decide_eq_decide.mpr not_lt.symm

theorem State.cutQueue_eq (s : State) (k : Service) (x : Smc) : s.cutQueue k x =
    ((s.service k).queue.filter fun c => decide (0 ≤ (c.present - x).toInt)).foldl
      (fun u c => (u.markCue k c.body.id .gone).raise (serviceEvent .cueCut k))
      (s.setService k { s.service k with
        queue := (s.service k).queue.filter fun c => decide ((c.present - x).toInt < 0) }) := by
  simp only [decide_not_earlier]
  rfl

theorem State.cutQueue_service (s : State) (k : Service) (x : Smc) : (s.cutQueue k x).service k = { s.service k with
    queue := (s.service k).queue.filter fun c => decide ((c.present - x).toInt < 0) } := by
  rw [State.cutQueue_eq, State.foldl_cut_service, State.service_setService, if_pos rfl]

theorem State.cutLiveCommitted_of (s : State) (k : Service) (x : Smc) (o : Option Committed) :
    (s.service k).committed = o → s.cutLiveCommitted k x = match o with
    | some ⟨.live c, _, _, _⟩ =>
      if 0 ≤ (c.present - x).toInt then
        (s.setService k { s.service k with committed := none }).raise (serviceEvent .cueCut k)
      else s
    | _ => s := by
  rcases o with _ | ⟨c | c, band, conflict, mark⟩ <;> intro waits
  · simp only [State.cutLiveCommitted, waits]
  · simp only [State.cutLiveCommitted, waits, Committed.liveFrom, ← decide_not_earlier, decide_eq_true_eq,
      State.cutCommitted]
  · simp only [State.cutLiveCommitted, waits, Committed.liveFrom, Bool.false_eq_true, if_false]

theorem State.cutFrom_display (s : State) (k : Service) (x : Smc) :
    ((s.cutFrom k x).service k).display = (s.service k).display ∧
      ((s.cutFrom k x).service k).control = (s.service k).control := by
  have queue := s.cutQueue_service k x
  rw [State.cutFrom, State.cutLiveCommitted_of _ _ _ _ rfl]
  split
  · split <;> simp [queue]
  · simp [queue]

theorem State.requestClear_eq (s : State) (k : Service) : s.requestClear k = s.setService k { s.service k with
    control := if (s.service k).display = .blank then (s.service k).control else .clear } := by
  rcases display : (s.service k).display with _ | r
  · simp only [State.requestClear, ServiceState.requestClear, display, if_pos]
    rw [← display]
  · simp [State.requestClear, ServiceState.requestClear, display]

/-! ### The four switches -/

theorem State.switchLive_eq (s : State) (k : Service) (x : Smc) : s.switchLive k x =
    (s.endPlay k).setService k { (s.endPlay k).service k with
      control := ((s.endPlay k).service k).clearedPrepared
      kindInForce := .live
      lastSwitch := some ⟨.live, x, false⟩
      liveStart := some x } := by
  simp only [State.switchLive, State.setLiveStart, State.setKind, State.clearPrepared_eq, State.service_setService, if_pos,
    State.setService_setService]

theorem State.switchBreak_eq (s : State) (k : Service) (x : Smc) : s.switchBreak k x =
    let u := ((s.endPlay k).setService k { (s.endPlay k).service k with
      kindInForce := .brk
      lastSwitch := some ⟨.brk, x, false⟩ }).cutFrom k x
    u.setService k { u.service k with
      control := if ((s.endPlay k).service k).display = .blank then ((s.endPlay k).service k).control else .clear } := by
  have reads := State.cutFrom_display ((s.endPlay k).setKind k .brk ⟨.brk, x, false⟩) k x
  simp only [State.setKind, State.service_setService, if_pos] at reads
  rw [State.switchBreak, State.requestClear_eq, ← State.cutFrom, State.setKind, reads.1, reads.2]

theorem State.switchPackage_eq (s : State) (k : Service) (x : Smc) (id : PackageId) : s.switchPackage k x id =
    ((s.endPlay k).setService k { (s.endPlay k).service k with
      pointer := some ⟨id, 1, x⟩
      kindInForce := .package
      lastSwitch := some ⟨.package, x, false⟩ }).cutFrom k x := by
  simp only [State.switchPackage, State.setKind, State.service_setService, if_pos, State.setService_setService]
  rfl

theorem State.switchFallback_eq (s : State) (k : Service) (x e : Smc) : s.switchFallback k x e =
    let v := (s.endPlay k).service k
    (s.endPlay k).setService k { v with
      control := v.clearedPrepared
      kindInForce := .live
      lastSwitch := some ⟨.package, x, true⟩
      liveStart := some x
      segCurrent := if v.lastChange = some e ∧ ∃ q, v.segCurrent = .package q then .live else v.segCurrent } := by
  simp only [State.switchFallback, State.setLiveStart, State.setKind, State.clearPrepared_eq, State.service_setService,
    if_pos, State.setService_setService, ServiceState.fallBack_eq]

theorem State.packageReady_of_ready {id : PackageId} {r : PackageRecord} (found : s.findPackage id = some r)
    (ready : r.state = .ready) : s.packageReady id = true := by
  simp [State.packageReady, found, ready]

theorem State.packageReady_of_loading {id : PackageId} (loading : ∀ r, s.findPackage id = some r → r.state = .loading) :
    s.packageReady id = false := by
  rcases found : s.findPackage id with _ | r
  · simp [State.packageReady, found]
  · simp [State.packageReady, found, loading r found]

end Sys2Proof.Machine

open Sys2Proof.Machine

/-- Settles O51: an entry joins between the entries that are not later and the first that is later. -/
theorem listsKeepOrder : Obligations.ListsKeepOrder := by
  refine ⟨fun e l => ?_, fun e l => ?_⟩
  · have low := takeWhile_not_later PendingEvent.effect e.effect l
    have high := head_dropWhile_not_later PendingEvent.effect e.effect l
    refine ⟨⟨_, _, List.takeWhile_append_dropWhile.symm, insertEvent_eq e l, low, high⟩, fun chain => ?_⟩
    rw [← List.takeWhile_append_dropWhile (p := fun x : PendingEvent => !later x.effect e.effect) (l := l)] at chain
    have joined := isChain_insert PendingEvent.effect e low high chain
    rwa [List.takeWhile_append_dropWhile, ← insertEvent_eq] at joined
  · have low := takeWhile_not_later SwitchEntry.switch e.switch l
    have high := head_dropWhile_not_later SwitchEntry.switch e.switch l
    refine ⟨_, _, List.takeWhile_append_dropWhile.symm, insertSwitch_eq e l, low, high, fun chain => ?_⟩
    rw [← List.takeWhile_append_dropWhile (p := fun x : SwitchEntry => !later x.switch e.switch) (l := l)] at chain
    have joined := isChain_insert SwitchEntry.switch e low high chain
    rwa [List.takeWhile_append_dropWhile, ← insertSwitch_eq] at joined

/-- Settles O52, by the equation of each effect and of joining a switch list. -/
theorem effectsApplied : Obligations.EffectsApplied := by
  refine ⟨fun s => ?expires, fun s k e armed => ?applied, fun s k e => ?joins⟩
  case expires =>
    intro expires
    have same : PendingEvent.expires s.now = expires := funext fun e => congrArg (e.armed && ·) (decide_reached _ _).symm
    simp only [exec, execEffectTimeExpiry, State.expireEffects, same]
  case applied =>
    intro v at_
    refine ⟨fun g => ⟨fun same => if_pos same, fun moved => if_neg moved⟩, fun d => rfl, fun seg => ?_, fun slot rows => rfl⟩
    intro before body
    have kinds : v.segCurrent.kind = before := by rcases h : v.segCurrent <;> simp [before, h, Segment.kind]
    have bodies : seg.switchBody e = body := by cases seg <;> rfl
    simp only [State.applyEvent, ServiceState.enterSegment, State.service_setService, if_pos, bodies]
    rw [← kinds]
    rfl
  case joins =>
    intro v
    refine ⟨fun room => if_pos room, fun x rest full first => ?_⟩
    have none : ¬ v.switches.length < switchLimit := not_lt.mpr full
    simp only [State.joinSwitch]
    rw [if_neg none, first]
    rfl

/-- Settles O53, by the equation of each switch on what the end of the play leaves. -/
theorem switchesApplied : Obligations.SwitchesApplied := by
  refine ⟨fun s k => ?expires, fun s k => ⟨fun idle => ?_, fun q plays => ⟨fun c x waits prepared same =>
    State.endPlay_of_cut plays waits prepared same, State.endPlay_of_kept plays⟩⟩, fun s k x armed => ?applied⟩
  case expires =>
    intro expires
    have same : SwitchEntry.expires s.now = expires := funext fun e => congrArg (e.armed && ·) (decide_reached _ _).symm
    simp only [exec, execSwitchTimeExpiry, State.expireSwitches, same]
  · simp [State.endPlay, idle]
  case applied =>
    intro t v cutEvent prepared cleared cutFrom
    have cuts (u : State) : u.cutFrom k x = cutFrom u := by
      have waits : ((u.cutQueue k x).service k).committed = (u.service k).committed := by rw [State.cutQueue_service]
      rw [State.cutFrom, State.cutLiveCommitted_of _ _ _ _ waits, State.cutQueue_eq]
      rfl
    refine ⟨State.switchLive_eq s k x, ?brk, fun id e => ⟨fun r found ready => ?_, fun loading => ?_⟩, fun slot rows => rfl⟩
    case brk =>
      rw [← cuts]
      exact State.switchBreak_eq s k x
    · rw [← cuts, ← State.switchPackage_eq s k x id]
      exact if_pos (State.packageReady_of_ready found ready)
    · refine Eq.trans ?_ (State.switchFallback_eq s k x e)
      exact if_neg (by simp [State.packageReady_of_loading loading])
end

section
set_option Elab.async false
/-! SUPPORT. An EVENT (spec/09 R139 to R141): its payload as read and repaired, and the answer of each case. -/

namespace Sys2Proof.Machine

variable {s t : State}

/-! ### The payload as read -/

theorem readEvent_eq (t1 t0 kind h m sec fr flags : Byte) (v : Service) (body : List Byte) :
    readEvent (t1 :: t0 :: kind :: BitVec.ofNat 8 v.val :: h :: m :: sec :: fr :: flags :: body) =
      (readEventBody kind body).map fun b =>
        ⟨v, ⟨h.toNat, m.toNat, sec.toNat, fr.toNat, flags.getLsbD 0⟩, b.body, b.changed⟩ := by
  have place : (BitVec.ofNat 8 v.val).toNat = v.val := by
    rw [BitVec.toNat_ofNat]
    omega
  have low : (BitVec.ofNat 8 v.val).toNat < 4 := by omega
  have named : (⟨(BitVec.ofNat 8 v.val).toNat, low⟩ : Service) = v := Fin.ext place
  simp only [readEvent]
  rw [dif_pos low, named]

theorem readEvent_service_range (t1 t0 kind svc h m sec fr flags : Byte) (body : List Byte) (range : 4 ≤ svc.toNat) :
    readEvent (t1 :: t0 :: kind :: svc :: h :: m :: sec :: fr :: flags :: body) = none :=
  dif_neg (by omega)

theorem readEvent_short {payload : List Byte} (short : payload.length < 9) : readEvent payload = none := by
  unfold readEvent
  split
  · simp at short
    omega
  · rfl

theorem repairStrap_eq (a b : Nat) : repairStrap a b =
    ⟨min (max 1 (min a 15)) (max 1 (min b 15)), max (max 1 (min a 15)) (max 1 (min b 15))⟩ := by
  have ordered (x y : Nat) : (if y < x then (⟨y, x⟩ : Strap) else ⟨x, y⟩) = ⟨min x y, max x y⟩ := by
    split
    · rw [Nat.min_eq_right (by omega), Nat.max_eq_left (by omega)]
    · rw [Nat.min_eq_left (by omega), Nat.max_eq_right (by omega)]
  simpa only [repairStrap, clampTo, Nat.min_comm 15] using ordered _ _

theorem readEventBody_kind {kind : Byte} (other : kind ∉ ([1, 2, 3, 4] : List Byte)) (body : List Byte) :
    readEventBody kind body = none := by
  have ne (n : Nat) (small : n < 256) (listed : BitVec.ofNat 8 n ∈ ([1, 2, 3, 4] : List Byte)) : kind.toNat ≠ n := by
    rintro rfl
    rw [BitVec.ofNat_toNat, BitVec.setWidth_eq] at listed
    exact other listed
  unfold readEventBody
  split
  · exact absurd ‹_› (ne 1 (by decide) (by decide))
  · exact absurd ‹_› (ne 2 (by decide) (by decide))
  · exact absurd ‹_› (ne 3 (by decide) (by decide))
  · exact absurd ‹_› (ne 4 (by decide) (by decide))
  · rfl

theorem readEventBody_segment_range {x : Byte} (other : x ∉ ([1, 2, 3] : List Byte)) (hi lo : Byte) (rest : List Byte) :
    readEventBody 1 (x :: hi :: lo :: rest) = none := by
  have ne (n : Nat) (small : n < 256) (listed : BitVec.ofNat 8 n ∈ ([1, 2, 3] : List Byte)) : x.toNat ≠ n := by
    rintro rfl
    rw [BitVec.ofNat_toNat, BitVec.setWidth_eq] at listed
    exact other listed
  change (match x.toNat with
    | 1 => _
    | 2 => _
    | 3 => _
    | _ => none) = none
  split
  · exact absurd ‹_› (ne 1 (by decide) (by decide))
  · exact absurd ‹_› (ne 2 (by decide) (by decide))
  · exact absurd ‹_› (ne 3 (by decide) (by decide))
  · rfl

theorem readEventBody_strap_range {slot st : Byte} (other : 4 ≤ slot.toNat ∨ 2 ≤ st.toNat) (r1 r2 : Byte)
    (rest : List Byte) : readEventBody 2 (slot :: st :: r1 :: r2 :: rest) = none := by
  by_cases place : slot.toNat < 4
  · refine (dif_pos place).trans ?_
    split
    · omega
    · omega
    · rfl
  · exact dif_neg place

theorem readEventBody_route_range {g : Byte} (range : 4 ≤ g.toNat) (ne : g ≠ 255) (rest : List Byte) :
    readEventBody 3 (g :: rest) = none :=
  (dif_neg (by omega)).trans (if_neg ne)

theorem readEventBody_short {kind : Byte} {body : List Byte}
    (short : (kind = 1 ∧ body.length < 3) ∨ (kind = 2 ∧ body.length < 4) ∨ (kind = 3 ∧ body.length < 1) ∨
      (kind = 4 ∧ body.length < 2)) : readEventBody kind body = none := by
  rcases short with ⟨rfl, short⟩ | ⟨rfl, short⟩ | ⟨rfl, short⟩ | ⟨rfl, short⟩
  · match body, short with
    | [], _ | [_], _ | [_, _], _ => rfl
  · match body, short with
    | [], _ | [_], _ | [_, _], _ | [_, _, _], _ => rfl
  · match body, short with
    | [], _ => rfl
  · match body, short with
    | [], _ | [_], _ => rfl

theorem readEventBody_route (g : Group) : readEventBody 3 [BitVec.ofNat 8 g.val] = some ⟨.route (some g), false⟩ := by
  fin_cases g <;> rfl

theorem readEventBody_delay (hi lo : Byte) : readEventBody 4 [hi, lo] =
    some ⟨.delay (if (hi ++ lo : BitVec 16).toNat ≤ 12000 then (hi ++ lo : BitVec 16).toNat else 12000),
      decide (12000 < (hi ++ lo : BitVec 16).toNat)⟩ := by
  have least (d : Nat) : (if d ≤ 12000 then d else 12000) = min 12000 d := by
    split <;> omega
  rw [least]
  rfl

theorem readEventBody_strap (slot : Fin 4) (r1 r2 : Byte) :
    readEventBody 2 [BitVec.ofNat 8 slot.val, 0, r1, r2] = some ⟨.strap slot none, false⟩ ∧
    readEventBody 2 [BitVec.ofNat 8 slot.val, 1, r1, r2] = some ⟨.strap slot (some (repairStrap r1.toNat r2.toNat)),
      repairStrap r1.toNat r2.toNat != ⟨r1.toNat, r2.toNat⟩⟩ := by
  fin_cases slot <;> exact ⟨rfl, rfl⟩

/-! ### The answer -/

theorem State.takeEvent_idle {payload : List Byte} (drops : s.mode = .config ∨ 96 < payload.length) :
    s.takeEvent payload = s := by
  rcases drops with config | long
  · simp [State.takeEvent, State.running, config]
  · exact if_pos (by simp [show payloadLimit < payload.length from long])

theorem State.takeEvent_of_none {payload : List Byte} (run : s.mode = .run) (fits : payload.length ≤ 96)
    (unread : readEvent payload = none) : s.takeEvent payload = s.sendAnswer ⟨readEventTag payload, .range⟩ := by
  have takes : (!s.running || decide (payloadLimit < payload.length)) = false := by
    rw [State.running, run, show decide (payloadLimit < payload.length) = false from decide_eq_false (not_lt.mpr fits)]
    rfl
  simp only [State.takeEvent, takes, unread, Bool.false_eq_true, if_false]

theorem State.takeEvent_of_some {payload : List Byte} {f : EventFields} (run : s.mode = .run) (fits : payload.length ≤ 96)
    (read : readEvent payload = some f) : s.takeEvent payload =
      if (s.service f.service).par.enabled then s.convertEvent (readEventTag payload) f
      else s.sendAnswer ⟨readEventTag payload, .range⟩ := by
  have takes : (!s.running || decide (payloadLimit < payload.length)) = false := by
    rw [State.running, run, show decide (payloadLimit < payload.length) = false from decide_eq_false (not_lt.mpr fits)]
    rfl
  simp only [State.takeEvent, takes, read, Bool.false_eq_true, if_false]

theorem State.convertEvent_of {tag : BitVec 16} {f : EventFields} {effect : Smc} {immediate noAnchor : Bool}
    (converts : (s.ref.convert f.label = .converted effect ∧ immediate = false ∧ noAnchor = false) ∨
      (s.ref.convert f.label = .immediate noAnchor ∧ effect = s.ref.smc ∧ immediate = true)) :
    s.convertEvent tag f =
      (s.raiseIf noAnchor (plainEvent .immediateNoAnchor)).acceptEvent tag f effect immediate := by
  rcases converts with ⟨converted, rfl, rfl⟩ | ⟨converted, rfl, rfl⟩
  · simp only [State.convertEvent, converted]
    rfl
  · simp only [State.convertEvent, converted]
    rfl

theorem State.acceptance_of_changed {f : EventFields} (changed : f.changed = true) (e : Smc) (i : Bool) :
    s.acceptance f e i = .clamped e i := if_pos changed

theorem State.acceptance_of_missing {f : EventFields} (same : f.changed = false) {id : PackageId}
    (body : f.body = .segment (.package id)) (missing : s.findPackage id = none) (e : Smc) (i : Bool) :
    s.acceptance f e i = .missing e i := by
  simp [State.acceptance, same, body, missing]

theorem State.acceptance_of_known {f : EventFields} (same : f.changed = false)
    (known : ∀ id, f.body = .segment (.package id) → s.findPackage id ≠ none) (e : Smc) (i : Bool) :
    s.acceptance f e i = .accepted e i := by
  rw [State.acceptance, same]
  simp only [Bool.false_eq_true, if_false]
  split
  · rename_i id body
    rw [if_neg (by simpa using known id body)]
  · rfl

end Sys2Proof.Machine

open Sys2Proof.Machine

/-- Settles O50, by the payload as read and the tests in their order. -/
theorem eventAnswered : Obligations.EventAnswered := by
  refine ⟨fun s payload drops => congrArg _ (State.takeEvent_idle drops), fun s payload run short => ?short,
    fun s t1 t0 rest run fits => ?answered, fun t1 t0 k h m sec fr flags v => ?read, fun payload => readEvent_short⟩
  case short =>
    have unread : readEvent payload = none := readEvent_short (by omega)
    have tag : readEventTag payload = 0 := by
      match payload, short with
      | [], _ | [_], _ => rfl
    exact congrArg _ ((State.takeEvent_of_none run (by omega) unread).trans (by rw [tag]))
  case answered =>
    intro payload tag answered
    have size : payload.length ≤ 96 := by
      simp only [payload, List.length_cons]
      omega
    refine ⟨fun unread => congrArg _ (State.takeEvent_of_none run size unread), fun f read => ?_⟩
    have taken := State.takeEvent_of_some run size read
    refine ⟨fun disabled => congrArg _ (taken.trans (if_neg (by simp [disabled]))), fun enabled => ?_⟩
    rw [if_pos enabled] at taken
    refine ⟨fun range => congrArg _ (taken.trans ?_), fun effect immediate noAnchor converts => ?_⟩
    · simp only [State.convertEvent, range]
      rfl
    intro t joined
    rw [State.convertEvent_of converts] at taken
    have events : t.events = s.events := State.raiseIf_events ..
    have packages (id : Sys2Proof.PackageId) : t.findPackage id = s.findPackage id := by
      cases noAnchor <;> simp [t]
    refine ⟨fun full => congrArg _ (taken.trans (if_pos (events ▸ full))), fun room => ?_⟩
    have accepted : s.takeEvent payload = joined.sendAnswer ⟨tag, t.acceptance f effect immediate⟩ := by
      refine taken.trans ((if_neg (not_le.mpr (show t.events.length < eventLimit from events ▸ room))).trans ?_)
      rw [show (s.raiseIf noAnchor (plainEvent .immediateNoAnchor)).events = s.events from events]
      rfl
    refine ⟨fun changed => congrArg _ (accepted.trans ?_), fun same => ⟨fun id body missing => congrArg _ (accepted.trans ?_),
      fun known => congrArg _ (accepted.trans ?_)⟩⟩
    · rw [State.acceptance_of_changed changed]
    · rw [State.acceptance_of_missing same body ((packages id).trans missing)]
    · rw [State.acceptance_of_known same fun id body => packages id ▸ known id body]
  case read =>
    intro head read
    have reads (kind : Sys2Proof.Byte) (body : List Sys2Proof.Byte) : readEvent (head kind body) = (readEventBody kind body).bind fun b =>
        read b.body b.changed := (readEvent_eq t1 t0 kind h m sec fr flags v body).trans (by cases readEventBody kind body <;> rfl)
    have unread {kind : Sys2Proof.Byte} {body : List Sys2Proof.Byte} (none : readEventBody kind body = Option.none) :
        readEvent (head kind body) = Option.none := by rw [reads, none]; rfl
    refine ⟨fun hi lo => ⟨reads _ _, reads _ _, fun zero => unread (if_pos zero), fun other => ?_, ?_⟩, fun g => ?_, reads _ _,
      fun slot r1 r2 => ?strap, fun other body => unread (readEventBody_kind other body),
      fun x hi lo other => unread (readEventBody_segment_range other hi lo []),
      fun slot st r1 r2 other => unread (readEventBody_strap_range other r1 r2 []),
      fun g range other => unread (readEventBody_route_range range other []),
      fun body => ⟨fun short => unread (readEventBody_short (by simp [short])),
        fun short => unread (readEventBody_short (by simp [short])),
        fun short => unread (readEventBody_short (by simpa using short)),
        fun short => unread (readEventBody_short (by simp [short]))⟩,
      fun svc body range => readEvent_service_range t1 t0 k svc h m sec fr flags body range⟩
    · rw [reads, show readEventBody 1 [2, hi, lo] = _ from if_neg other]
      rfl
    · rw [reads, readEventBody_delay]
      rfl
    · rw [reads, readEventBody_route]
      rfl
    case strap =>
      intro a b rows
      obtain ⟨empty, occupied⟩ := readEventBody_strap slot r1 r2
      rw [reads, reads, empty, occupied, repairStrap_eq]
      exact ⟨rfl, congrArg (read _) (Bool.eq_iff_iff.mpr (bne_iff_ne.trans decide_eq_true_iff.symm))⟩
end

section
set_option Elab.async false
/-! SUPPORT. The takes of package records (spec/10 R154 to R164): the head that a take finds, the table, and the plays that a drop
ends. -/

namespace Sys2Proof.Machine

variable {s t : State}

/-! ### The head of an unpaused queue -/

theorem State.plays_iff (s : State) (k : Service) (id : PackageId) :
    s.plays k id = true ↔ ∃ q, (s.service k).pointer = some q ∧ q.package = id := by
  rcases pointer : (s.service k).pointer with _ | q <;> simp [State.plays, pointer]

theorem State.isPlaying_iff (s : State) (id : PackageId) :
    s.isPlaying id = true ↔ ∃ k q, (s.service k).pointer = some q ∧ q.package = id := by
  rw [State.isPlaying, List.any_eq_true]
  simp only [State.plays_iff]
  exact ⟨fun ⟨k, _, plays⟩ => ⟨k, plays⟩, fun ⟨k, plays⟩ => ⟨k, by fin_cases k <;> simp [allServices], plays⟩⟩

theorem State.nextRecord_of_open {p : Port} {id : PackageId} {n : Nat} {rest : List IntakeRecord} (run : s.mode = .run)
    (free : (s.port p).link ≠ .taking) (head : (s.port p).queue = .pkgOpen id n :: rest) :
    s.nextRecord p = if s.isPlaying id then none else some (.pkgOpen id n) := by
  cases plays : s.isPlaying id <;> simp [State.nextRecord, State.paused, State.running, run, free, head, plays]

theorem State.nextRecord_of_other {p : Port} {r : IntakeRecord} {rest : List IntakeRecord} (run : s.mode = .run)
    (free : (s.port p).link ≠ .taking) (head : (s.port p).queue = r :: rest) (other : ∀ id n, r ≠ .pkgOpen id n) :
    s.nextRecord p = some r := by
  cases r with
  | pkgOpen id n => exact absurd rfl (other id n)
  | _ => simp [State.nextRecord, State.paused, State.running, run, free, head]

theorem State.removeHead_load (s : State) (p q : Port) : ((s.removeHead p).port q).load = (s.port q).load := by
  unfold State.removeHead State.afterRemoval State.sendResume
  by_cases e : q = p
  · split <;> simp [e]
  · split <;> simp [e]

theorem State.forget_of_port {s u : State} {p : Port} (same : u.port p = s.port p) (id : PackageId) :
    u.forget p id = if (s.port p).load = .ignoring id then u.setLoad p .idle else u := by
  rw [State.forget, same]

/-! ### The table -/

theorem replacePackage_eq (l : List (Option PackageRecord)) (id : PackageId) (r : Option PackageRecord) :
    replacePackage l id r = l.map fun o => if o.map PackageRecord.id = some id then r else o := by
  refine List.map_congr_left fun o _ => ?_
  cases o <;> simp

theorem insertPackage_of_first (r : PackageRecord) {before after : List (Option PackageRecord)} (full : none ∉ before) :
    insertPackage r (before ++ none :: after) = some (before ++ some r :: after) := by
  induction before with
  | nil => rfl
  | cons o before ih =>
    cases o with
    | none => exact absurd (List.mem_cons_self) full
    | some x => simp [insertPackage, ih fun member => full (List.mem_cons_of_mem _ member)]

theorem insertPackage_of_full (r : PackageRecord) {l : List (Option PackageRecord)} (full : none ∉ l) :
    insertPackage r l = none := by
  induction l with
  | nil => rfl
  | cons o l ih =>
    cases o with
    | none => exact absurd (List.mem_cons_self) full
    | some x => simp [insertPackage, ih fun member => full (List.mem_cons_of_mem _ member)]

/-! ### The tests of a PKG-CUE -/

theorem State.cueRefused_eq (s : State) (r : PackageRecord) (c : PreparedCue) : s.cueRefused r c =
    if r.declared ≤ r.cues.length then some .count
    else if ∃ l, r.cues.getLast? = some l ∧ c.offset ≤ l.offset then some .order
    else if s.poolCapacity ≤ poolUse s.packages then some .full
    else none := by
  rcases last : r.cues.getLast? with _ | l <;> simp [State.cueRefused, last]

/-! ### The end of the plays -/

theorem State.endPlay_service_of_ne (s : State) {j k : Service} (ne : j ≠ k) :
    (s.endPlay k).service j = s.service j := by
  unfold State.endPlay State.cutPrepared State.cutCommitted
  split
  · rfl
  · repeat' split
    all_goals simp [ne]

theorem State.endPlay_ended (s : State) {k : Service} {id : PackageId} (plays : s.plays k id = true) :
    ((s.endPlay k).service k).pointer = none ∧
      ∀ c, ((s.endPlay k).service k).committed = some c → c.isOf id = false := by
  obtain ⟨q, pointer, rfl⟩ := (s.plays_iff k id).mp plays
  by_cases cut : ∃ c x, (s.service k).committed = some c ∧ c.source = .prepared x ∧ x.package = q.package
  · obtain ⟨c, x, waits, prepared, same⟩ := cut
    rw [State.endPlay_of_cut pointer waits prepared same]
    simp
  · rw [State.endPlay_of_kept pointer fun c x waits prepared same => cut ⟨c, x, waits, prepared, same⟩]
    refine ⟨by simp, fun c waits => ?_⟩
    have waits : (s.service k).committed = some c := by simpa using waits
    rcases source : c.source with x | x
    · simp [Committed.isOf, source]
    · simpa [Committed.isOf, source] using fun same => cut ⟨c, x, waits, source, same⟩

theorem State.endPlays_foldl (id : PackageId) (ks : List Service) (distinct : ks.Nodup) (s t : State)
    (same : ∀ k ∈ ks, t.service k = s.service k) :
    ks.foldl (fun u k => if u.plays k id then u.endPlay k else u) t =
      (ks.filter fun k => s.plays k id).foldl State.endPlay t := by
  induction ks generalizing t with
  | nil => rfl
  | cons k ks ih =>
    obtain ⟨fresh, distinct⟩ := List.nodup_cons.mp distinct
    have plays : t.plays k id = s.plays k id := by simp only [State.plays, same k List.mem_cons_self]
    rw [List.foldl_cons, List.filter_cons, plays]
    cases s.plays k id
    · exact ih distinct _ fun j member => same j (List.mem_cons_of_mem _ member)
    · refine ih distinct _ fun j member => ?_
      have ne : j ≠ k := fun h => fresh (h ▸ member)
      exact (State.endPlay_service_of_ne t ne).trans (same j (List.mem_cons_of_mem _ member))

theorem State.foldl_endPlay_frame (ks : List Service) (s : State) :
    SameBut [.services, .counters, .alerts] s (ks.foldl State.endPlay s) := by
  induction ks using List.reverseRecOn with
  | nil => exact SameBut.refl _ _
  | append_singleton ks k ih => rw [List.foldl_concat]; exact (sameBut_endPlay k (by simp)).mpr ih

theorem State.foldl_endPlay_service_of_notMem {ks : List Service} {j : Service} (absent : j ∉ ks) (s : State) :
    (ks.foldl State.endPlay s).service j = s.service j := by
  induction ks generalizing s with
  | nil => rfl
  | cons k ks ih =>
    rw [List.foldl_cons, ih fun member => absent (List.mem_cons_of_mem _ member)]
    exact State.endPlay_service_of_ne s fun h => absent (h ▸ List.mem_cons_self)

theorem State.foldl_endPlay_ended {ks : List Service} (distinct : ks.Nodup) {j : Service} (member : j ∈ ks) (s : State)
    {id : PackageId} (plays : s.plays j id = true) :
    ((ks.foldl State.endPlay s).service j).pointer = none ∧
      ∀ c, ((ks.foldl State.endPlay s).service j).committed = some c → c.isOf id = false := by
  induction ks generalizing s with
  | nil => cases member
  | cons k ks ih =>
    obtain ⟨fresh, distinct⟩ := List.nodup_cons.mp distinct
    rw [List.foldl_cons]
    by_cases same : j = k
    · subst same
      rw [State.foldl_endPlay_service_of_notMem fresh]
      exact s.endPlay_ended plays
    · refine ih distinct ((List.mem_cons.mp member).resolve_left same) (s.endPlay k) ?_
      simp only [State.plays, State.endPlay_service_of_ne s same]
      exact plays

end Sys2Proof.Machine

open Sys2Proof.Machine

/-- Settles O54, by the head that each take finds, the table's two updates and the plays that a drop ends. -/
theorem packageRecords : Obligations.PackageRecords := by
  refine ⟨fun s p rest run free => ?takes, fun s p id => ?records⟩
  case takes =>
    intro queue t
    refine ⟨fun id n head => ⟨fun plays => ?_, fun still => ?_⟩, fun c head => ?_, fun id head => ?_, fun id head => ?_⟩
    · have next := State.nextRecord_of_open run free head
      rw [if_pos ((s.isPlaying_iff id).mpr plays)] at next
      simp only [exec, execPkgOpenTake, State.takeOpen, next]
    · have next := State.nextRecord_of_open run free head
      rw [if_neg fun plays => by
        obtain ⟨k, q, pointer, same⟩ := (s.isPlaying_iff id).mp plays
        exact still k q pointer same] at next
      have taken : exec (.pkgOpenTake p) s = .next ((t.endLoad p).openPackage p id n) := by
        simp only [exec, execPkgOpenTake, State.takeOpen, next]
        rfl
      have load : (t.port p).load = (s.port p).load := s.removeHead_load p p
      refine ⟨fun idle => ?_, fun q loading => ?_, fun q ignoring => ?_⟩ <;> rw [taken, State.endLoad, load]
      · rw [idle]
      · rw [loading]
      · rw [ignoring]
        rfl
    · have next := State.nextRecord_of_other run free head fun _ _ => nofun
      simp only [exec, execPkgCueTake, State.takeCue, next]
      rfl
    · have next := State.nextRecord_of_other run free head fun _ _ => nofun
      simp only [exec, execPkgCloseTake, State.takeClose, next]
      rfl
    · have next := State.nextRecord_of_other run free head fun _ _ => nofun
      simp only [exec, execPkgDropTake, State.takeDrop, next]
      rfl
  case records =>
    intro table context answer alert failed
    have frees : replacePackage s.packages id none = table none := replacePackage_eq ..
    have replaces (r : PackageRecord) : replacePackage s.packages id (some r) = table (some r) := replacePackage_eq ..
    have fails (r : PackageRecord) (why : LoadFailure) (next : LoadContext) (found : s.findPackage id = some r) :
        s.failLoad p id why next = failed why next r.cues.length := by
      simp only [State.failLoad, State.freePackage, found, frees]
      rfl
    refine ⟨fails, fun n => ?opened, fun c => ?cue, fun r load found => ?closed, fun load => ?_, fun notLoading notIgnoring => ?_,
      ?dropped⟩
    case opened =>
      intro opened
      refine ⟨fun r found state => ?_, fun r found state => ?_, fun missing before after packages full => ?_,
        fun missing full => ?_⟩
      · simp only [State.openPackage, found, state]
        rfl
      · simp only [State.openPackage, found, state, replaces]
        rfl
      · simp only [State.openPackage, missing, packages, insertPackage_of_first _ full]
        rfl
      · simp only [State.openPackage, missing, insertPackage_of_full _ full]
        rfl
    case cue =>
      refine ⟨fun idle => ?_, fun ignoring => ?_, fun r load found => ?_⟩
      · simp only [State.loadCue, idle]
        rfl
      · simp only [State.loadCue, ignoring]
      · intro full late
        have loads : s.loadCue p c = match s.cueRefused r c with
            | some why => s.failLoad p id why (.ignoring id)
            | none => s.setPackages (replacePackage s.packages id (some { r with cues := r.cues ++ [c] })) := by
          simp only [State.loadCue, load, found] <;> rfl
        rw [State.cueRefused_eq] at loads
        refine ⟨fun count => ?_, fun room order => ?_, fun room order pool => ?_, fun room order pool => ?_⟩
        · rw [loads, if_pos count]
          exact fails r _ _ found
        · rw [loads, if_neg (not_le.mpr room), if_pos order]
          exact fails r _ _ found
        · rw [loads, if_neg (not_le.mpr room), if_neg order, if_pos pool]
          exact fails r _ _ found
        · rw [loads, if_neg (not_le.mpr room), if_neg order, if_neg pool]
          exact congrArg s.setPackages (replaces _)
    case closed =>
      have closes : s.closePackage p id = s.closeLoad p id r := by simp only [State.closePackage, load, found, if_pos]
      rw [closes, State.closeLoad]
      refine ⟨fun agree => ?_, fun differ => ?_⟩
      · rw [if_pos agree, replaces]
        rfl
      · rw [if_neg differ]
        exact fails r _ _ found
    · simp only [State.closePackage, load, if_pos]
      rfl
    · rcases load : (s.port p).load with _ | q | q
      · simp only [State.closePackage, load]
        rfl
      · have ne : q ≠ id := fun h => notLoading (h ▸ load)
        simp only [State.closePackage, load, if_neg ne]
        rfl
      · have ne : q ≠ id := fun h => notIgnoring (h ▸ load)
        simp only [State.closePackage, load, if_neg ne]
        rfl
    case dropped =>
      intro forgotten
      refine ⟨fun missing => ?_, fun r found state => ⟨fun own => ?_, fun other => ?_⟩, fun r found state => ?_⟩
      · simp only [State.dropPackage, missing]
        rfl
      · simp only [State.dropPackage, found, state, if_pos own, State.freePackage, frees]
        rfl
      · simp only [State.dropPackage, found, state, if_neg other]
        rfl
      · intro playing u
        have decides (k : Sys2Proof.Service) : decide (∃ q, (s.service k).pointer = some q ∧ q.package = id) = s.plays k id :=
          Bool.eq_iff_iff.mpr (decide_eq_true_iff.trans (s.plays_iff k id).symm)
        have playing_eq : playing = Sys2Proof.allServices.filter fun k => s.plays k id := by simp only [playing, decides]
        have ends : s.endPlays id = u := by
          simp only [u, playing_eq]
          exact State.endPlays_foldl id Sys2Proof.allServices (by decide) s s fun _ _ => rfl
        have frame : SameBut [.services, .counters, .alerts] s u := State.foldl_endPlay_frame playing s
        have distinct : playing.Nodup := playing_eq ▸ (by decide : Sys2Proof.allServices.Nodup).filter _
        have member (k : Sys2Proof.Service) : k ∈ playing ↔ s.plays k id = true := by
          rw [playing_eq, List.mem_filter]
          exact and_iff_right (by fin_cases k <;> simp [Sys2Proof.allServices])
        refine ⟨?_, frame, fun k => ⟨fun plays => ?_, fun still => ?_⟩⟩
        · have packages : u.packages = s.packages := frame .packages (by simp)
          have ports : u.port p = s.port p := congrArg (Sys2Proof.Per8.get · p) (frame .ports (by simp))
          simp only [State.dropPackage, found, state, ends, State.freePackage, packages, frees]
          rw [State.forget_of_port (u := u.setPackages (table none)) ports id]
          rfl
        · exact State.foldl_endPlay_ended distinct ((member k).mpr plays) s plays
        · exact State.foldl_endPlay_service_of_notMem (fun m => by simp [(member k).mp m] at still) s
end

section
set_option Elab.async false
/-! SUPPORT. Commands of the supervisory link by the transaction that carries them (spec/12 R175, R176), and the commands on
counters and alerts (spec/11 R171 to R174). -/

namespace Sys2Proof.Machine

variable {s t : State}

/-! ### A command by its transaction -/

theorem State.command_of_carrying (carrying : s.sup.transaction = .carrying) (type : Byte) (act : State → Reply) :
    s.command type act = { (act s).state with
      sup := { (act s).state.sup with executing := some ((act s).response type), transaction := .none } } := by
  have carrier : s.carrier = s := by simp only [State.carrier, carrying]
  rw [State.command_eq, carrier, if_neg (by simp [carrying])]

theorem State.command_of_discarding (discarding : s.sup.transaction = .discarding) (type : Byte) (act : State → Reply) :
    s.command type act = { s with sup := { s.sup with transaction := .none } } := by
  have carrier : s.carrier = s := by simp only [State.carrier, discarding]
  rw [State.command_eq, carrier, if_pos discarding]

theorem State.beginTransaction_transaction (s : State) : s.beginTransaction.sup.transaction ≠ .none := by
  simp only [State.beginTransaction, Supervisory.begin]
  split <;> nofun

theorem State.command_of_none (none : s.sup.transaction = .none) (type : Byte) (act : State → Reply) :
    s.command type act = s.beginTransaction.command type act := by
  have carrier : s.carrier = s.beginTransaction.carrier := by
    rcases begun : s.beginTransaction.sup.transaction
    · exact absurd begun s.beginTransaction_transaction
    · simp only [State.carrier, none, begun]
    · simp only [State.carrier, none, begun]
  rw [State.command_eq, State.command_eq, carrier]

theorem withIndex_of_le (s : State) {n limit : Nat} (range : limit ≤ n) (act : Fin limit → Reply) :
    withIndex s n limit act = refuse s .range := dif_neg (not_lt.mpr range)

theorem withIndex_val (s : State) {limit : Nat} (i : Fin limit) (act : Fin limit → Reply) :
    withIndex s i.val limit act = act i := dif_pos i.isLt

theorem inMode_of (s : State) {m : Mode} (mode : s.mode = m) (r : Reply) : inMode s m r = r := if_pos mode

theorem inMode_of_ne (s : State) {m : Mode} (mode : s.mode ≠ m) (r : Reply) : inMode s m r = refuse s .mode := if_neg mode

/-- What a carried command answers and leaves. -/
theorem exec_carried {c : Instr} {type : Byte} {act : State → Reply} {r : Reply} (carrying : s.sup.transaction = .carrying)
    (arm : exec c s = .next (s.command type act)) (acts : act s = r) (time : r.state.ref.smc = s.ref.smc) :
    exec c s = .next { r.state with
      sup := { r.state.sup with executing := some ⟨type, r.code, false, s.ref.smc, r.fields⟩, transaction := .none } } := by
  rw [arm, State.command_of_carrying carrying, acts, Reply.response, State.now, time]

/-- An instruction that is one supervisory command, whatever the state. -/
def IsCommand (c : Instr) : Prop := ∃ type act, ∀ s : State, exec c s = .next (s.command type act)

theorem IsCommand.of_discarding {c : Instr} (command : IsCommand c) (discarding : s.sup.transaction = .discarding) :
    exec c s = .next { s with sup := { s.sup with transaction := .none } } := by
  obtain ⟨type, act, arm⟩ := command
  rw [arm, State.command_of_discarding discarding]

theorem IsCommand.of_none {c : Instr} (command : IsCommand c) (none : s.sup.transaction = .none) :
    exec c s = exec c s.beginTransaction := by
  obtain ⟨type, act, arm⟩ := command
  rw [arm, arm, State.command_of_none none]

theorem supervisoryCommand_none_iff (b : Byte) : supervisoryCommand b = none ↔ b.toNat < 0x80 ∨ 0x92 < b.toNat := by
  revert b
  decide +kernel

theorem checkReply_some (t : Byte) (s : State) : checkReply (some t) s = s.command t fun u => refuse u .check := rfl

theorem checkReply_none (s : State) : checkReply none s =
    ({ s with freeIndex := s.freeIndex + 1 }).command (Config.freeByte s.freeIndex) fun u => refuse u .check := rfl

theorem execUnknown_of {t : Byte} (other : t.toNat < 0x80 ∨ 0x92 < t.toNat) (s : State) :
    exec (.unknownCommandType t) s = .next (s.command t fun u => refuse u .unknown) := by
  have names : (supervisoryCommand t).isSome = false := by rw [(supervisoryCommand_none_iff t).mpr other]; rfl
  exact if_neg (by rw [names]; nofun)

theorem isCommand_unknown {t : Byte} (other : t.toNat < 0x80 ∨ 0x92 < t.toNat) : IsCommand (.unknownCommandType t) :=
  ⟨t, fun u => refuse u .unknown, execUnknown_of other⟩

theorem isCommand_cons {c : Instr} {l : List Instr} {type : Byte} {act : State → Reply}
    (arm : ∀ s : State, exec c s = .next (s.command type act)) (rest : ∀ x ∈ l, IsCommand x) : ∀ x ∈ c :: l, IsCommand x :=
  List.forall_mem_cons.mpr ⟨⟨type, act, arm⟩, rest⟩

theorem isCommand_listed (m : Moment) (a b d : Nat) (v : ParamValue) (f : SelectionFields) (marks : Per8 Bool) :
    ∀ c ∈ ([.parameterRead a b d, .parameterWrite m a b d v, .frameRateWrite m v, .configuredRouteWrite a v,
        .flowControlWrite a v, .schedulingModeWrite v, .poolRegionWrite a v, .start, .stop, .flushPort a, .flushService a,
        .counterSelect a f, .counterClear a, .counterRead marks, .alertStatus, .alertClear marks, .alertEnable marks,
        .referenceStatus, .portStatus a, .groupStatus a, .serviceStatus a, .layoutStatus, .automationStatus,
        .packageStatus] : List Instr), IsCommand c := by
  iterate 24 refine isCommand_cons (fun _ => rfl) ?_
  exact List.forall_mem_nil _

/-! ### Bytes of a failing frame -/

theorem execCommandCheckFailed_of_noMarker {raw : List Byte} (read : readFrame 255 raw = .noMarker) (s : State) :
    exec (.commandCheckFailed raw) s = .next s := by
  have read : readFrame supervisoryLimit raw = .noMarker := read
  simp only [exec, execCommandCheckFailed, read]

theorem execCommandCheckFailed_of_frame {raw body rest : List Byte} {type : Byte}
    (read : readFrame 255 raw = .frame type body rest) (s : State) : exec (.commandCheckFailed raw) s = .next s := by
  have read : readFrame supervisoryLimit raw = .frame type body rest := read
  simp only [exec, execCommandCheckFailed, read]

theorem execCommandCheckFailed_of_failed {raw rest : List Byte} {type : Option Byte}
    (read : readFrame 255 raw = .failed type rest) (s : State) :
    exec (.commandCheckFailed raw) s = .next (checkReply type s) := by
  have read : readFrame supervisoryLimit raw = .failed type rest := read
  simp only [exec, execCommandCheckFailed, read]

/-! ### Selections -/

theorem Counter.select?_of_range {f : SelectionFields} (range : f.event = .outsideTable ∨ f.causes = .outsideRange ∨
    f.services = .outsideRange ∨ f.ports = .outsideRange ∨ 4294967295 < f.threshold) : Counter.select? f = none := by
  unfold Counter.select?
  split
  · rename_i events causes services ports
    rcases range with outside | outside | outside | outside | threshold
    · rw [outside] at events
      cases events
    · rw [outside] at causes
      cases causes
    · rw [outside] at services
      cases services
    · rw [outside] at ports
      cases ports
    · exact if_pos threshold
  · rfl

theorem Counter.select?_of_members {f : SelectionFields} {e : Option EventKind} {x : CauseSet} {y : Per4 Bool} {z : Per8 Bool}
    (event : selectedEvent f.event = some e) (causes : f.causes = .members x) (services : f.services = .members y)
    (ports : f.ports = .members z) (threshold : f.threshold ≤ 4294967295) :
    Counter.select? f = some ⟨e, x, y, z, f.threshold, 0, false⟩ := by
  simp only [Counter.select?, event, causes, services, ports, maskMembers]
  exact if_neg (not_lt.mpr threshold)

theorem State.attention_iff (s : State) :
    s.attention = true ↔ ∃ i, (s.alerts.get i).flag = true ∧ (s.alerts.get i).enable = true := by
  simp only [State.attention, List.any_eq_true, Bool.and_eq_true]
  exact ⟨fun ⟨i, _, on⟩ => ⟨i, on⟩, fun ⟨i, on⟩ => ⟨i, by fin_cases i <;> simp [allPorts], on⟩⟩

end Sys2Proof.Machine

open Sys2Proof.Machine

/-- Settles O56, by what each command answers when a transaction carries it. -/
theorem counterAndAlertCommands : Obligations.CounterAndAlertCommands := by
  refine ⟨fun s carrying => ?_, State.attention_iff⟩
  intro reply
  have refused {c : Sys2Proof.Instr} {type : Sys2Proof.Byte} {act : State → Reply} {code : Code}
      (arm : exec c s = .next (s.command type act)) (acts : act s = refuse s code) : reply c type code .none s :=
    exec_carried carrying arm acts rfl
  refine ⟨fun n f range => ⟨?_, ?_⟩, fun i f => ?select, fun named => ?_, ?_, fun marks => ?_⟩
  · exact refused rfl (withIndex_of_le s range _)
  · exact refused rfl (withIndex_of_le s range _)
  case select =>
    intro select
    refine ⟨fun range => refused rfl ?_, fun x y z causes services ports threshold => ⟨fun none => ?_, fun e event => ?_⟩, ?_⟩
    · rw [selectCounter, withIndex_val, Counter.select?_of_range range]
    · refine exec_carried (r := done (select .none x y z)) carrying rfl ?_ rfl
      rw [selectCounter, withIndex_val, Counter.select?_of_members (by rw [none]; rfl) causes services ports threshold]
    · refine exec_carried (r := done (select (some e) x y z)) carrying rfl ?_ rfl
      rw [selectCounter, withIndex_val, Counter.select?_of_members (by rw [event]; rfl) causes services ports threshold]
    · exact exec_carried (r := done { s with counters := s.counters.set i (s.counters.get i).clear }) carrying rfl
        (withIndex_val s i _) rfl
  · refine ⟨clearNamed s.counters named, ?_, fun i => ?_⟩
    · exact exec_carried (r := readCounters s named) carrying rfl rfl rfl
    rw [clearNamed, Sys2Proof.Per8.get_tabulate]
    rfl
  · exact exec_carried (r := report s (.alerts s.alerts)) carrying rfl rfl rfl
  · refine ⟨clearMarked s.alerts marks, enableMarked s.alerts marks, ?_, ?_, fun i => ⟨?_, ?_⟩⟩
    · exact exec_carried (r := done { s with alerts := clearMarked s.alerts marks }) carrying rfl rfl rfl
    · exact exec_carried (r := done { s with alerts := enableMarked s.alerts marks }) carrying rfl rfl rfl
    · rw [clearMarked, Sys2Proof.Per8.get_tabulate]
      rfl
    · rw [enableMarked, Sys2Proof.Per8.get_tabulate]

/-- Settles O57, by the state of the transaction that carries each command. -/
theorem transactions : Obligations.Transactions := by
  refine ⟨⟨by decide, supervisoryCommand_type, supervisoryCommand_none_iff⟩, fun s => ?link,
    fun raw => execCommandCheckFailed_of_noMarker, fun s m a b d v f marks t other => ?listed, fun s raw =>
    ⟨fun t body rest read => execCommandCheckFailed_of_frame read s, fun type rest read => ⟨fun discarding => ?_, fun none => ?_⟩⟩⟩
  case link =>
    refine ⟨fun r busy => ⟨?_, ?_⟩, fun idle => ⟨?_, ?_⟩, rfl, fun carrying => ⟨fun t rest raw read => ?_,
      fun rest raw read => ?_, fun t other => ?_⟩⟩
    · simp only [exec, execTransactionStart, State.beginTransaction, Supervisory.begin, Supervisory.shifted, busy]
    · simp only [exec, execResponseReady, Supervisory.finish, busy]
    · have overrun : (s.sup.overrun && s.sup.buffer.isNone) = if s.sup.buffer = none then s.sup.overrun else false := by
        rcases s.sup.buffer with _ | r <;> simp
      simp only [exec, execTransactionStart, State.beginTransaction, Supervisory.begin, Supervisory.shifted, idle, overrun]
    · simp only [exec, execResponseReady, Supervisory.finish, idle]
    · exact exec_carried (r := refuse s .check) carrying (act := fun u => refuse u .check)
        (execCommandCheckFailed_of_failed read s) rfl rfl
    · rw [execCommandCheckFailed_of_failed read s, checkReply_none, State.command_of_carrying (by exact carrying)]
      rfl
    · exact exec_carried (r := refuse s .unknown) carrying (execUnknown_of other s) rfl rfl
  case listed =>
    have command := isCommand_listed m a b d v f marks
    have command := List.forall_mem_cons.mpr ⟨isCommand_unknown other, command⟩
    exact fun c member => ⟨(command c member).of_discarding, (command c member).of_none⟩
  · rw [execCommandCheckFailed_of_failed read s]
    cases type with
    | some t => rw [checkReply_some, State.command_of_discarding discarding, if_neg nofun]
    | none => rw [checkReply_none, State.command_of_discarding (by exact discarding), if_pos rfl]
  · rw [execCommandCheckFailed_of_failed read s, execCommandCheckFailed_of_failed read]
    cases type with
    | some t => rw [checkReply_some, checkReply_some, State.command_of_none none]
    | none =>
      rw [checkReply_none, checkReply_none, State.command_of_none (by exact none)]
      rfl
end

section
set_option Elab.async false
/-! SUPPORT. The table of parameters (spec/12 R178, R179) with its places and values, and the status records (R177). -/

namespace Sys2Proof.Machine

variable {s t : State}

/-! ### Places in the table -/

theorem onPort_val (p : Port) (f : Port → Param) : onPort p.val f = .ok (f p) := dif_pos p.isLt

theorem onGroup_val (g : Group) (f : Group → Param) : onGroup g.val f = .ok (f g) := dif_pos g.isLt

theorem onService_val (k : Service) (f : Service → Param) : onService k.val f = .ok (f k) := dif_pos k.isLt

theorem onRegion_port (p : Port) (f : RegionName → Param) : onRegion p.val f = .ok (f (.port p)) := dif_pos p.isLt

theorem onRegion_service (k : Service) (f : RegionName → Param) : onRegion (8 + k.val) f = .ok (f (.service k)) := by
  have low : 8 + k.val - 8 < 4 := by omega
  have named : (⟨8 + k.val - 8, low⟩ : Service) = k := Fin.ext (by simp)
  rw [onRegion, dif_neg (by omega), dif_pos low, named]

theorem onPort_of_le {n : Nat} (range : 8 ≤ n) (f : Port → Param) : onPort n f = .error .range := dif_neg (not_lt.mpr range)

theorem onGroup_of_le {n : Nat} (range : 4 ≤ n) (f : Group → Param) : onGroup n f = .error .range :=
  dif_neg (not_lt.mpr range)

theorem onService_of_le {n : Nat} (range : 4 ≤ n) (f : Service → Param) : onService n f = .error .range :=
  dif_neg (not_lt.mpr range)

theorem onRegion_of_le {n : Nat} (range : 13 ≤ n) (f : RegionName → Param) : onRegion n f = .error .range := by
  rw [onRegion, dif_neg (by omega), dif_neg (by omega), if_neg (by omega)]

/-- The places of the table of R178 that hold a parameter of the part, and of a port, a group, a service and a region. -/
def partPlaces : List (Nat × Nat) := [(1, 1), (2, 1), (3, 1), (20, 1), (21, 1)]
@[inherit_doc partPlaces]
def portPlaces : List (Nat × Nat) := [(4, 1), (5, 1), (6, 1), (7, 1), (8, 1), (9, 1), (9, 2)]
@[inherit_doc partPlaces]
def groupPlaces : List (Nat × Nat) := [(10, 1), (11, 1)]
@[inherit_doc partPlaces]
def servicePlaces : List (Nat × Nat) :=
  [(12, 1), (13, 1), (14, 1), (15, 1), (16, 1), (17, 1), (17, 2), (17, 3), (17, 4), (17, 5), (17, 6), (17, 7), (17, 8),
    (17, 9), (18, 1), (19, 1), (19, 2)]
@[inherit_doc partPlaces]
def regionPlaces : List (Nat × Nat) := [(22, 1), (22, 2)]

theorem resolve_port_range : ∀ x ∈ portPlaces, ∀ n, 8 ≤ n → resolve x.1 x.2 n = .error .range := by
  unfold portPlaces
  intro x listed n range
  fin_cases listed <;> simp only [resolve, onPort_of_le range]

theorem resolve_group_range : ∀ x ∈ groupPlaces, ∀ n, 4 ≤ n → resolve x.1 x.2 n = .error .range := by
  unfold groupPlaces
  intro x listed n range
  fin_cases listed <;> simp only [resolve, onGroup_of_le range]

theorem resolve_service_range : ∀ x ∈ servicePlaces, ∀ n, 4 ≤ n → resolve x.1 x.2 n = .error .range := by
  unfold servicePlaces
  intro x listed n range
  fin_cases listed <;> simp only [resolve, onService_of_le range]

theorem resolve_region_range : ∀ x ∈ regionPlaces, ∀ n, 13 ≤ n → resolve x.1 x.2 n = .error .range := by
  unfold regionPlaces
  intro x listed n range
  fin_cases listed <;> simp only [resolve, onRegion_of_le range]

theorem resolve_unknown {row member : Nat}
    (absent : (row, member) ∉ partPlaces ++ portPlaces ++ groupPlaces ++ servicePlaces ++ regionPlaces) (n : Nat) :
    resolve row member n = .error .unknown := by
  unfold resolve
  split
  case h_34 => rfl
  all_goals exact absurd (by decide) absent

/-! ### The label of a frame-of-day -/

theorem labelOfFrame_names {n : Nat} {r : Rate} (day : n < 86400 * r.fps) :
    (((labelOfFrame n r).hours * 60 + (labelOfFrame n r).minutes) * 60 + (labelOfFrame n r).seconds) * r.fps +
        (labelOfFrame n r).frames = n ∧
      (labelOfFrame n r).hours < 24 ∧ (labelOfFrame n r).minutes < 60 ∧ (labelOfFrame n r).seconds < 60 ∧
      (labelOfFrame n r).frames < r.fps := by
  cases r <;> simp only [labelOfFrame, Rate.fps] at day ⊢ <;> omega

theorem Display.status_eq (d : Display) : d.status =
    match d with
    | .blank => none
    | .showing r => some ⟨r.cueId, r.source, r.band, r.shown⟩ := by
  cases d <;> rfl

end Sys2Proof.Machine

open Sys2Proof.Machine

/-- Settles O58, by the place of each parameter, the value it holds and the record of each status command. -/
theorem statusReads : Obligations.StatusReads := by
  refine ⟨⟨fun n => ⟨rfl, rfl, rfl, rfl, rfl⟩, fun p => ?port, fun g => ⟨onGroup_val g _, onGroup_val g _⟩, fun k => ?service,
    rfl, rfl⟩, ?ranges, fun s p g k => ?values, fun s carrying => ?records, fun n r day => labelOfFrame_names day⟩
  case port =>
    and_intros <;> simp only [resolve, onPort_val, onRegion_port]
  case service =>
    and_intros <;> simp only [resolve, onService_val, onRegion_service]
  case ranges =>
    intro part port group service region
    exact ⟨resolve_port_range, fun x listed n range => (List.mem_append.mp listed).elim
      (resolve_group_range x · n range) (resolve_service_range x · n range), resolve_region_range,
      fun row member n absent => resolve_unknown absent n⟩
  case values =>
    intro x y
    and_intros <;> rfl
  case records =>
    intro reply
    have reports {c : Sys2Proof.Instr} {type : Sys2Proof.Byte} {act : State → Reply} {fields : ResponseFields}
        (arm : exec c s = .next (s.command type act)) (acts : act s = report s fields) : reply c type .ok fields :=
      exec_carried carrying arm acts rfl
    have refused {c : Sys2Proof.Instr} {type : Sys2Proof.Byte} {act : State → Reply} {code : Code}
        (arm : exec c s = .next (s.command type act)) (acts : act s = refuse s code) : reply c type code .none :=
      exec_carried carrying arm acts rfl
    refine ⟨fun row member index => ⟨fun e place => refused rfl ?_, fun x place => reports rfl ?_⟩, reports rfl rfl,
      fun p => reports rfl (withIndex_val s p _), fun g => reports rfl (withIndex_val s g _), fun k => ?_, reports rfl rfl,
      reports rfl rfl, reports rfl rfl, fun n => ⟨fun range => refused rfl (withIndex_of_le s range _),
        fun range => refused rfl (withIndex_of_le s range _), fun range => refused rfl (withIndex_of_le s range _)⟩⟩
    · rw [readParam, place]
    · rw [readParam, place]
    · intro v
      refine reports rfl ((withIndex_val s k _).trans ?_)
      rw [State.serviceStatus, Display.status_eq]
      rfl
end

section
set_option Elab.async false
/-! SUPPORT. PARAMETER WRITE (spec/12 R178, R179): modes and ranges, what is read back after a write, and the writes with an
effect of their own. -/

namespace Sys2Proof.Machine

variable {s t : State}

/-! ### Modes -/

theorem Param.writableInRun_iff (x : Param) : x.writableInRun = false ↔ x = .frameRate ∨ (∃ p, x = .portKind p ∨
    x = .portGroup p ∨ x = .portNumber p .hw ∨ x = .portNumber p .lw) ∨ (∃ k, x = .serviceEnable k) ∨
      ∃ r, x = .regionFirst r ∨ x = .regionCount r := by
  cases x with
  | portNumber p n => cases n <;> simp [Param.writableInRun]
  | _ => simp [Param.writableInRun]

/-! ### Ranges -/

/-- The range of a parameter that holds a number, other than the frame rate and the trim. -/
def Param.numericRange (x : Param) (s : State) : Option (Nat × Nat) :=
  match x with
  | .silenceTimeout => some (1000, 10000)
  | .portNumber _ m => some m.range
  | .yieldTimeout _ => some (1000, 10000)
  | .serviceNumber k m => some (m.range (s.service k).par)
  | .budget => some (96, 512)
  | .regionFirst _ => some (0, 255)
  | .regionCount _ => some (0, 256)
  | _ => none

theorem Param.accepts_num {x : Param} {r : Nat × Nat} (range : x.numericRange s = some r) (v : ParamValue) :
    x.accepts s v = true ↔ ∃ n : Int, v = .num n ∧ (r.1 : Int) ≤ n ∧ n ≤ (r.2 : Int) := by
  have numeric : x.accepts s v = match (generalizing := false) v with | .num n => inRange r n | _ => false := by
    cases x with
    | silenceTimeout | portNumber | yieldTimeout | serviceNumber | budget | regionFirst | regionCount =>
      cases range
      cases v <;> rfl
    | _ => cases range
  rw [numeric]
  cases v with
  | num n => simp [inRange_iff]
  | _ => simp

theorem Param.accepts_within {x : Param} {lo hi : Nat} (range : x.numericRange s = some (lo, hi)) (v : ParamValue) :
    x.accepts s v = true ↔ ∃ n : Int, v = .num n ∧ (lo : Int) ≤ n ∧ n ≤ (hi : Int) := Param.accepts_num range v

theorem Rate.ofFps_iff {v : Int} {r : Rate} : Rate.ofFps v = some r ↔ v = r.fps := by
  unfold Rate.ofFps
  constructor
  · intro found
    split at found
    · cases found; assumption
    split at found
    · cases found; assumption
    split at found
    · cases found; assumption
    split at found
    · cases found; assumption
    · cases found
  · rintro rfl
    cases r <;> rfl

theorem Param.accepts_frameRate (v : ParamValue) : Param.accepts .frameRate s v = true ↔ ∃ r : Rate, v = .num r.fps := by
  cases v with
  | num n =>
    change (Rate.ofFps n).isSome = true ↔ _
    simp only [Option.isSome_iff_exists, Rate.ofFps_iff, ParamValue.num.injEq]
  | _ => simp [Param.accepts]

theorem exists_rate (v : ParamValue) :
    (∃ r : Rate, v = .num r.fps) ↔ v = .num 25 ∨ v = .num 30 ∨ v = .num 50 ∨ v = .num 60 := by
  constructor
  · rintro ⟨r, rfl⟩
    cases r <;> simp [Rate.fps]
  · rintro (rfl | rfl | rfl | rfl)
    exacts [⟨.fps25, rfl⟩, ⟨.fps30, rfl⟩, ⟨.fps50, rfl⟩, ⟨.fps60, rfl⟩]

theorem Param.accepts_trim (v : ParamValue) :
    Param.accepts .trim s v = true ↔ ∃ n : Int, v = .num n ∧ -32 ≤ n ∧ n ≤ 31 := by
  cases v <;> simp [Param.accepts]

theorem Param.accepts_mode (v : ParamValue) : Param.accepts .schedMode s v = true ↔ ∃ m, v = .mode m := by
  cases v <;> simp [Param.accepts]

theorem Param.accepts_kind (p : Port) (v : ParamValue) : Param.accepts (.portKind p) s v = true ↔ ∃ x, v = .kind x := by
  cases v <;> simp [Param.accepts]

theorem Param.accepts_group {x : Param} (held : (∃ p, x = .portGroup p) ∨ ∃ k, x = .route k) (v : ParamValue) :
    x.accepts s v = true ↔ ∃ g, v = .group g := by
  rcases held with ⟨p, rfl⟩ | ⟨k, rfl⟩ <;> cases v <;> simp [Param.accepts]

theorem Param.accepts_enabled {x : Param}
    (held : (∃ p, x = .flowControl p) ∨ (∃ g, x = .failover g) ∨ ∃ k, x = .serviceEnable k) (v : ParamValue) :
    x.accepts s v = true ↔ ∃ b, v = .enabled b := by
  rcases held with ⟨p, rfl⟩ | ⟨g, rfl⟩ | ⟨k, rfl⟩ <;> cases v <;> simp [Param.accepts]

/-! ### What is read back -/

theorem PortNumber.read_write (n : PortNumber) (par : PortParams) (v : Nat) : n.read (n.write par v) = v := by
  cases n <;> rfl

theorem ServiceNumber.read_write (n : ServiceNumber) (par : ServiceParams) (v : Nat) : n.read (n.write par v) = v := by
  cases n <;> rfl

theorem State.regionOf_writeRegion (s : State) (name : RegionName) (r : Region) :
    (s.writeRegion name r).regionOf name = r := by
  cases name with
  | port p => simp [State.writeRegion, State.regionOf, State.setPortPar]
  | service k => simp [State.writeRegion, State.regionOf, State.setServicePar]
  | pool =>
    simp only [State.writeRegion, State.regionOf, State.writePool]
    split
    · exact Eq.symm ‹_›
    · rfl

/-- A service with its configured route replaced. -/
def State.withRoute (s : State) (k : Service) (g : Option Group) : State :=
  s.setService k { s.service k with par := { (s.service k).par with route := g } }

theorem State.writeRoute_still {k : Service} {g : Option Group}
    (still : s.mode = .config ∨ (s.service k).par.enabled = false ∨ (s.service k).liveRoute = g) :
    s.writeRoute k g = s.withRoute k g := by
  have route : ((s.withRoute k g).service k).liveRoute = (s.service k).liveRoute := by simp [State.withRoute]
  change (if s.running && (s.service k).par.enabled then (s.withRoute k g).changeRoute k g else s.withRoute k g) = _
  rcases still with config | disabled | same
  · rw [State.running, config]
    rfl
  · rw [disabled, Bool.and_false]
    rfl
  · rw [State.changeRoute, if_pos (route.trans same), ite_self]

theorem State.writeRoute_moved {k : Service} {g : Option Group} (run : s.mode = .run)
    (enabled : (s.service k).par.enabled = true) (moved : (s.service k).liveRoute ≠ g) : s.writeRoute k g =
      ((s.withRoute k g).closeCue k).setService k
        { ((s.withRoute k g).closeCue k).service k with liveRoute := g } := by
  have route : ((s.withRoute k g).service k).liveRoute = (s.service k).liveRoute := by simp [State.withRoute]
  change (if s.running && (s.service k).par.enabled then (s.withRoute k g).changeRoute k g else s.withRoute k g) = _
  rw [State.running, run, enabled]
  exact (if_pos rfl).trans (if_neg (route ▸ moved))

theorem State.writeRoute_route (s : State) (k : Service) (g : Option Group) :
    ((s.writeRoute k g).service k).par.route = g := by
  by_cases still : s.mode = .config ∨ (s.service k).par.enabled = false ∨ (s.service k).liveRoute = g
  · rw [State.writeRoute_still still]
    simp [State.withRoute]
  · simp only [not_or] at still
    obtain ⟨run, enabled, moved⟩ := still
    have run : s.mode = .run := by
      cases mode : s.mode
      · exact absurd mode run
      · rfl
    rw [State.writeRoute_moved run (by simpa using enabled) moved]
    simp [State.withRoute, State.closeCue_par]

theorem State.writeFlowControl_flowControl (s : State) (p : Port) (b : Bool) :
    ((s.writeFlowControl p b).port p).par.flowControl = b := by
  unfold State.writeFlowControl State.sendResume
  split <;> simp [State.setPortPar]

theorem State.writeSchedMode_schedMode (s : State) (m : SchedMode) : (s.writeSchedMode m).schedMode = m := by
  unfold State.writeSchedMode
  split
  · exact Eq.symm ‹_›
  · rfl

theorem State.writeRate_rate (s : State) (m : Moment) (r : Rate) : (s.writeRate m r).ref.rate = r := by
  unfold State.writeRate
  split
  · exact Eq.symm ‹_›
  · rfl

theorem Param.read_write_num {x : Param} {r : Nat × Nat} (range : x.numericRange s = some r) (m : Moment) {n : Int}
    (nonneg : 0 ≤ n) : x.read (x.write m (.num n) s) = .num n := by
  have whole : (n.toNat : Int) = n := Int.toNat_of_nonneg nonneg
  cases x with
  | silenceTimeout => exact congrArg ParamValue.num whole
  | portNumber p k =>
    simp only [Param.read, Param.write, State.setPortPar, State.port_setPort, if_pos, PortNumber.read_write, whole]
  | yieldTimeout g => simp only [Param.read, Param.write, State.group_setGroup, if_pos, whole]
  | serviceNumber k i =>
    simp only [Param.read, Param.write, State.setServicePar, State.service_setService, if_pos, ServiceNumber.read_write,
      whole]
  | budget => exact congrArg ParamValue.num whole
  | regionFirst r => simp only [Param.read, Param.write, State.regionOf_writeRegion, whole]
  | regionCount r => simp only [Param.read, Param.write, State.regionOf_writeRegion, whole]
  | _ => cases range

theorem Param.write_frameRate (m : Moment) (r : Rate) : Param.write .frameRate m (.num r.fps) s = s.writeRate m r := by
  simp only [Param.write, Rate.ofFps_iff.mpr (rfl : (r.fps : Int) = r.fps)]

theorem Param.read_write {x : Param} {v : ParamValue} (m : Moment) (accepts : x.accepts s v = true) :
    x.read (x.write m v s) = v := by
  have numeric {r : Nat × Nat} (range : x.numericRange s = some r) : x.read (x.write m v s) = v := by
    obtain ⟨n, rfl, low, -⟩ := (Param.accepts_num range v).mp accepts
    exact Param.read_write_num range m (le_trans (Int.natCast_nonneg _) low)
  cases x with
  | silenceTimeout | portNumber | yieldTimeout | serviceNumber | budget | regionFirst | regionCount => exact numeric rfl
  | frameRate =>
    obtain ⟨r, rfl⟩ := (Param.accepts_frameRate v).mp accepts
    rw [Param.write_frameRate, Param.read, State.writeRate_rate]
  | trim =>
    obtain ⟨n, rfl, -⟩ := (Param.accepts_trim v).mp accepts
    rfl
  | portKind p =>
    obtain ⟨k, rfl⟩ := (Param.accepts_kind p v).mp accepts
    simp [Param.read, Param.write, State.setPortPar]
  | portGroup p =>
    obtain ⟨g, rfl⟩ := (Param.accepts_group (.inl ⟨p, rfl⟩) v).mp accepts
    simp [Param.read, Param.write, State.setPortPar]
  | flowControl p =>
    obtain ⟨b, rfl⟩ := (Param.accepts_enabled (.inl ⟨p, rfl⟩) v).mp accepts
    exact congrArg _ (State.writeFlowControl_flowControl s p b)
  | failover g =>
    obtain ⟨b, rfl⟩ := (Param.accepts_enabled (.inr (.inl ⟨g, rfl⟩)) v).mp accepts
    simp [Param.read, Param.write]
  | serviceEnable k =>
    obtain ⟨b, rfl⟩ := (Param.accepts_enabled (.inr (.inr ⟨k, rfl⟩)) v).mp accepts
    simp [Param.read, Param.write, State.setServicePar]
  | route k =>
    obtain ⟨g, rfl⟩ := (Param.accepts_group (.inr ⟨k, rfl⟩) v).mp accepts
    exact congrArg _ (State.writeRoute_route s k g)
  | schedMode =>
    obtain ⟨m', rfl⟩ := (Param.accepts_mode v).mp accepts
    exact congrArg _ (State.writeSchedMode_schedMode s m')

/-! ### A write of the value held -/

theorem State.writeRegion_regionOf (s : State) (name : RegionName) : s.writeRegion name (s.regionOf name) = s := by
  cases name with
  | port p => exact s.setPort_port p
  | service k => exact s.setService_service k
  | pool => exact if_pos rfl

theorem PortNumber.write_read (n : PortNumber) (par : PortParams) : n.write par (n.read par) = par := by
  cases n <;> rfl

theorem ServiceNumber.write_read (n : ServiceNumber) (par : ServiceParams) : n.write par (n.read par) = par := by
  cases n <;> rfl

theorem Param.write_read {x : Param} (m : Moment) (notRoute : ∀ k, x ≠ .route k)
    (flowing : ∀ p, x = .flowControl p → (s.port p).flow = .flowing) : x.write m (x.read s) s = s := by
  cases x with
  | frameRate => exact (Param.write_frameRate m s.ref.rate).trans (if_pos rfl)
  | trim | silenceTimeout | budget => rfl
  | portKind p | portGroup p => exact s.setPort_port p
  | portNumber p n => exact (congrArg (s.setPortPar p) (n.write_read _)).trans (s.setPort_port p)
  | flowControl p =>
    have flows : (s.port p).flow ≠ .held := by rw [flowing p rfl]; nofun
    exact (if_neg fun both => flows both.2).trans (s.setPort_port p)
  | yieldTimeout g | failover g => exact s.setGroup_group g
  | serviceEnable k => exact s.setService_service k
  | route k => exact absurd rfl (notRoute k)
  | serviceNumber k n => exact (congrArg (s.setServicePar k) (n.write_read _)).trans (s.setService_service k)
  | schedMode => exact if_pos rfl
  | regionFirst r | regionCount r => exact s.writeRegion_regionOf r

/-! ### What a write leaves -/

theorem Param.write_smc (x : Param) (m : Moment) (v : ParamValue) (s : State) :
    (x.write m v s).ref.smc = s.ref.smc := by
  unfold Param.write
  split
  case h_1 =>
    split
    · rfl
    · unfold State.writeRate
      split <;> rfl
  case h_7 => exact congrArg RefUnit.smc (writeFlowControl_frame s _ _ .ref (by simp))
  case h_11 => exact congrArg RefUnit.smc (writeRoute_frame s _ _ .ref (by simp))
  case h_13 => exact congrArg RefUnit.smc (writeSchedMode_frame s _ .ref (by simp))
  case h_15 => exact congrArg RefUnit.smc (writeRegion_frame s _ _ .ref (by simp))
  case h_16 => exact congrArg RefUnit.smc (writeRegion_frame s _ _ .ref (by simp))
  all_goals rfl

theorem writeParam_of_error {row member index : Nat} {e : Code} (place : resolve row member index = .error e) (m : Moment)
    (v : ParamValue) (s : State) : writeParam row member index m v s = refuse s e := by
  rw [writeParam, place]

theorem writeParam_of_mode {row member index : Nat} {x : Param} (place : resolve row member index = .ok x)
    (run : s.mode = .run) (config : x.writableInRun = false) (m : Moment) (v : ParamValue) :
    writeParam row member index m v s = refuse s .mode := by
  have running : s.running = true := by rw [State.running, run]; rfl
  rw [writeParam, place]
  exact if_pos (by rw [running, config]; rfl)

theorem writable_of {x : Param} (mode : s.mode = .config ∨ x.writableInRun = true) :
    ¬ (s.running && !x.writableInRun) = true := by
  rcases mode with config | writable
  · have stopped : s.running = false := by rw [State.running, config]; rfl
    rw [stopped]
    nofun
  · rw [writable, Bool.not_true, Bool.and_false]
    nofun

theorem writeParam_of_range {row member index : Nat} {x : Param} {v : ParamValue} (place : resolve row member index = .ok x)
    (mode : s.mode = .config ∨ x.writableInRun = true) (range : x.accepts s v = false) (m : Moment) :
    writeParam row member index m v s = refuse s .range := by
  rw [writeParam, place]
  exact (if_neg (writable_of mode)).trans (if_pos (by rw [range]; rfl))

theorem writeParam_of_accepts {row member index : Nat} {x : Param} {v : ParamValue}
    (place : resolve row member index = .ok x) (mode : s.mode = .config ∨ x.writableInRun = true)
    (accepts : x.accepts s v = true) (m : Moment) :
    writeParam row member index m v s = ⟨x.write m v s, .ok, .value v⟩ := by
  rw [writeParam, place]
  refine (if_neg (writable_of mode)).trans ((if_neg (by rw [accepts]; nofun)).trans ?_)
  rw [Param.read_write m accepts]

end Sys2Proof.Machine

open Sys2Proof.Machine

/-- Settles O59, by the tests of a write in their order and the effect of each parameter's write. -/
theorem parameterWrites : Obligations.ParameterWrites := by
  refine ⟨⟨Param.writableInRun_iff, fun s v => ?ranges⟩, fun s m n z b o kind => ?writes, fun s carrying => ?replies⟩
  case ranges =>
    intro within
    refine ⟨(Param.accepts_frameRate v).trans (exists_rate v), Param.accepts_trim v, Param.accepts_within rfl v,
      Param.accepts_mode v, Param.accepts_within rfl v, fun r => ⟨Param.accepts_within rfl v, Param.accepts_within rfl v⟩,
      fun g => ⟨Param.accepts_within rfl v, Param.accepts_enabled (.inr (.inl ⟨g, rfl⟩)) v⟩,
      fun p => ⟨Param.accepts_kind p v, Param.accepts_group (.inl ⟨p, rfl⟩) v, Param.accepts_enabled (.inl ⟨p, rfl⟩) v,
        Param.accepts_within rfl v, Param.accepts_within rfl v, Param.accepts_within rfl v,
        Param.accepts_within rfl v⟩, fun k => ?_⟩
    intro y
    refine ⟨Param.accepts_enabled (.inr (.inr ⟨k, rfl⟩)) v, Param.accepts_group (.inr ⟨k, rfl⟩) v,
      Param.accepts_within rfl v, Param.accepts_within rfl v, Param.accepts_within rfl v, Param.accepts_within rfl v,
      Param.accepts_within rfl v, Param.accepts_within rfl v, ?_, Param.accepts_within rfl v, Param.accepts_within rfl v,
      Param.accepts_within rfl v, Param.accepts_within rfl v, Param.accepts_within rfl v, Param.accepts_within rfl v,
      Param.accepts_within rfl v, Param.accepts_within rfl v⟩
    refine (Param.accepts_within (lo := max 500 y.catchupFloor) rfl v).trans ?_
    constructor
    · rintro ⟨n, rfl, low, high⟩
      have high : n ≤ 5000 := high
      have low : ((max 500 y.catchupFloor : Nat) : Int) ≤ n := low
      exact ⟨⟨n, rfl, by omega, high⟩, n, rfl, by omega⟩
    · rintro ⟨⟨n, rfl, low, high⟩, n', same, floor⟩
      cases same
      exact ⟨n, rfl, by omega, high⟩
  case writes =>
    refine ⟨rfl, rfl, rfl, fun g => ⟨rfl, rfl⟩, fun p => ?_, fun k => ?_⟩
    · intro x put
      exact ⟨rfl, rfl, rfl, rfl, rfl, rfl, rfl, rfl⟩
    · intro x put
      exact ⟨rfl, rfl, rfl, rfl, rfl, rfl, rfl, rfl, rfl, rfl, rfl, rfl, rfl, rfl, rfl, rfl, rfl, rfl⟩
  case replies =>
    intro reply
    have refused {c : Sys2Proof.Instr} {act : State → Reply} {code : Code}
        (arm : exec c s = .next (s.command 0x81 act)) (acts : act s = refuse s code) : reply c code .none s :=
      exec_carried carrying arm acts rfl
    have taken {c : Sys2Proof.Instr} {row member index : Nat} {m : Sys2Proof.Moment} {x : Param} {v : Sys2Proof.ParamValue} {t : State}
        (arm : exec c s = .next (s.command 0x81 (writeParam row member index m v)))
        (place : resolve row member index = .ok x) (mode : s.mode = .config ∨ x.writableInRun = true)
        (accepts : x.accepts s v = true) (writes : x.write m v s = t) : reply c .ok (.value v) t :=
      exec_carried (r := ⟨t, .ok, .value v⟩) carrying arm (writes ▸ writeParam_of_accepts place mode accepts m)
        (writes ▸ Param.write_smc x m v s)
    refine ⟨fun m row member index v => ⟨fun e place => refused rfl (writeParam_of_error place m v s), fun x place =>
      ⟨fun run config => refused rfl (writeParam_of_mode place run config m v), fun mode =>
        ⟨fun range => refused rfl (writeParam_of_range place mode range m), fun accepts =>
          ⟨taken rfl place mode accepts rfl, Param.read_write m accepts, ?_⟩⟩⟩⟩,
      fun m v i => ⟨rfl, rfl, rfl, rfl, rfl⟩, fun m r config other n low high whole => ?rate, fun k g => ?route,
      fun p b => ?flow, fun m other => ?mode, fun n config => ?pool⟩
    · rintro rfl notRoute flowing
      exact Param.write_read m notRoute flowing
    case rate =>
      have trimmed : r.trimmed s.ref.trim = n := by
        cases r <;> simp only [Rate.trimmed, Rate.nominal] at whole ⊢ <;> omega
      refine taken (x := .frameRate) rfl rfl (.inl config) ((Param.accepts_frameRate _).mpr ⟨r, rfl⟩) ?_
      rw [Param.write_frameRate, State.writeRate, if_neg other, RefUnit.changeRate, trimmed]
    case route =>
      intro v t
      have place := onService_val k Param.route
      refine ⟨fun still => ?_, fun run enabled moved => ?_⟩
      · exact taken (x := .route k) rfl place (.inr rfl) rfl (State.writeRoute_still still)
      · exact taken (x := .route k) rfl place (.inr rfl) rfl (State.writeRoute_moved run enabled moved)
    case flow =>
      intro x y
      have place := onPort_val p Param.flowControl
      refine ⟨fun stays => ?_, fun disables held => ?_⟩
      · refine taken (x := .flowControl p) rfl place (.inr rfl) rfl (if_neg fun both => ?_)
        rcases stays with enables | flowing
        · exact absurd both.1 (by rw [enables]; nofun)
        · exact absurd both.2 (by rw [show (s.port p).flow = .flowing from flowing]; nofun)
      · refine taken (x := .flowControl p) rfl place (.inr rfl) rfl ((if_pos ⟨disables, held⟩).trans ?_)
        rw [State.sendResume, State.setPortPar, State.port_setPort, if_pos rfl, State.setPort_setPort]
    case mode =>
      exact taken (x := .schedMode) rfl rfl (.inr rfl) rfl (if_neg other)
    case pool =>
      intro discarded
      refine ⟨fun fits differs => ?_, fun fits differs => ?_⟩
      · refine taken (x := .regionFirst .pool) rfl rfl (.inl config) ?_ (if_neg ?_)
        · exact (Param.accepts_num (r := (0, 255)) rfl _).mpr ⟨n, rfl, Int.natCast_nonneg n, Int.ofNat_le.mpr fits⟩
        · exact fun same => differs (congrArg Region.first same)
      · refine taken (x := .regionCount .pool) rfl rfl (.inl config) ?_ (if_neg ?_)
        · exact (Param.accepts_num (r := (0, 256)) rfl _).mpr ⟨n, rfl, Int.natCast_nonneg n, Int.ofNat_le.mpr fits⟩
        · exact fun same => differs (congrArg Region.count same)
end

section
set_option Elab.async false
/-! SUPPORT. START with its layout check, STOP and the flushes (spec/06 R99 to R108, spec/12 R181, R182). -/

namespace Sys2Proof.Machine

variable {s t : State}

/-! ### The regions of the check -/

/-- The check takes the region of a collection (R99, R100). -/
def State.takes (s : State) : RegionName → Prop
  | .port p => (s.port p).par.kind ≠ .unused
  | .service k => (s.service k).par.enabled = true
  | .pool => (∃ p, (s.port p).par.kind = .script) ∨ s.poolRegion.count ≠ 0

theorem mem_takenRegions_of_takes {n : RegionName} (takes : s.takes n) : ⟨n, s.regionOf n⟩ ∈ s.takenRegions := by
  rw [mem_takenRegions_iff]
  cases n with
  | port p => exact .inl ⟨p, takes, rfl⟩
  | service k => exact .inr (.inl ⟨k, takes, rfl⟩)
  | pool => exact .inr (.inr ⟨takes, rfl⟩)

theorem takes_of_mem_takenRegions {n : RegionName} {r : Region} (taken : ⟨n, r⟩ ∈ s.takenRegions) : s.takes n := by
  rcases (mem_takenRegions_iff s _).mp taken with ⟨p, used, same⟩ | ⟨k, enabled, same⟩ | ⟨needed, same⟩
  · rw [(Taken.mk.inj same).1]
    exact used
  · rw [(Taken.mk.inj same).1]
    exact enabled
  · rw [(Taken.mk.inj same).1]
    exact needed

theorem takenRegion_of_takes {n : RegionName} (takes : s.takes n) :
    takenRegion s.takenRegions n = some (s.regionOf n) := by
  obtain ⟨r, found⟩ := Option.isSome_iff_exists.mp (takenRegion_of_mem (mem_takenRegions_of_takes takes))
  rw [found, (State.takenRegion_eq found).2]

theorem takenRegion_of_not_takes {n : RegionName} (leaves : ¬ s.takes n) : takenRegion s.takenRegions n = none := by
  rcases found : takenRegion s.takenRegions n with _ | r
  · rfl
  · exact absurd (takes_of_mem_takenRegions (State.takenRegion_eq found).1) leaves

theorem takenRegion_port (s : State) (p : Port) : takenRegion s.takenRegions (.port p) =
    if (s.port p).par.kind = .unused then none else some (s.port p).par.region := by
  split
  · exact takenRegion_of_not_takes (n := .port p) (not_not.mpr ‹_›)
  · exact takenRegion_of_takes (n := .port p) ‹_›

theorem takenRegion_service_eq (s : State) (k : Service) : takenRegion s.takenRegions (.service k) =
    if (s.service k).par.enabled = true then some (s.service k).par.region else none := by
  split
  · exact takenRegion_of_takes (n := .service k) ‹_›
  · exact takenRegion_of_not_takes (n := .service k) ‹_›

theorem takenRegion_pool (s : State) : takenRegion s.takenRegions .pool =
    if (∃ p, (s.port p).par.kind = .script) ∨ 0 < s.poolRegion.count then some s.poolRegion else none := by
  simp only [Nat.pos_iff_ne_zero]
  split
  · exact takenRegion_of_takes (n := .pool) ‹_›
  · exact takenRegion_of_not_takes (n := .pool) ‹_›

theorem State.takenRegions_eq (s : State) : s.takenRegions =
    (allPorts.filter fun p => decide ((s.port p).par.kind = .writer ∨ (s.port p).par.kind = .script)).map
        (fun p => ⟨.port p, (s.port p).par.region⟩) ++
      (allServices.filter fun k => (s.service k).par.enabled).map (fun k => ⟨.service k, (s.service k).par.region⟩) ++
      if (∃ p, (s.port p).par.kind = .script) ∨ 0 < s.poolRegion.count then [⟨.pool, s.poolRegion⟩] else [] := by
  have used (p : Port) : ((s.port p).par.kind != .unused) =
      decide ((s.port p).par.kind = .writer ∨ (s.port p).par.kind = .script) := by
    cases (s.port p).par.kind <;> rfl
  have needed : ((allPorts.any fun p => (s.port p).par.kind == .script) || s.poolRegion.count != 0) = true ↔
      (∃ p, (s.port p).par.kind = .script) ∨ 0 < s.poolRegion.count := by
    simp only [Bool.or_eq_true, List.any_eq_true, mem_allPorts, true_and, beq_iff_eq, bne_iff_ne, Nat.pos_iff_ne_zero]
  simp only [State.takenRegions, used, needed]

/-! ### The layout check -/

theorem regionFailure_eq (all : List Taken) (x : Taken) : regionFailure all x =
    if x.region.count = 0 then some .missing
    else if 256 < x.region.first + x.region.count then some .bounds
    else if ∃ y ∈ all, y.name ≠ x.name ∧ 0 < y.region.count ∧ x.region.first < y.region.first + y.region.count ∧
        y.region.first < x.region.first + x.region.count then some .overlap
    else none := by
  rw [regionFailure]
  split
  · rfl
  · rename_i some
    have pos : 0 < x.region.count := Nat.pos_of_ne_zero some
    have shares : (all.any fun y => y.name != x.name && x.region.shares y.region) = true ↔
        ∃ y ∈ all, y.name ≠ x.name ∧ 0 < y.region.count ∧ x.region.first < y.region.first + y.region.count ∧
          y.region.first < x.region.first + x.region.count := by
      simp only [List.any_eq_true, Bool.and_eq_true, bne_iff_ne, Region.shares, decide_eq_true_eq, pos, true_and, and_assoc]
    simp only [shares]

theorem layoutCheck_none_iff (all : List Taken) :
    layoutCheck all = none ↔ ∀ x ∈ all, regionFailure all x = none := by
  simp [layoutCheck, List.findSome?_eq_none_iff]

theorem layoutCheck_some_iff (all : List Taken) (n : RegionName) (f : LayoutFailure) :
    layoutCheck all = some (n, f) ↔ ∃ before x after, all = before ++ x :: after ∧ x.name = n ∧
      regionFailure all x = some f ∧ ∀ y ∈ before, regionFailure all y = none := by
  simp [layoutCheck, List.findSome?_eq_some_iff, and_assoc, and_left_comm]

/-! ### What START puts in force -/

theorem State.enterRun_portRegion (s : State) (p : Port) :
    s.enterRun.portRegion p = takenRegion s.takenRegions (.port p) := Per8.get_tabulate _ _

theorem State.enterRun_serviceRegion (s : State) (k : Service) :
    (layoutOf s.takenRegions).services.get k = takenRegion s.takenRegions (.service k) := Per4.get_tabulate _ _

theorem State.enterRun_queueCapacity (s : State) (k : Service) : s.enterRun.queueCapacity k =
    if (s.service k).par.enabled = true then 64 * (s.service k).par.region.count else 0 := by
  have force : s.enterRun.queueCapacity k =
      (((layoutOf s.takenRegions).services.get k).map Region.capacity).getD 0 := rfl
  rw [force, State.enterRun_serviceRegion, takenRegion_service_eq]
  split <;> rfl

theorem State.enterRun_poolCapacity (s : State) : s.enterRun.poolCapacity = 64 * s.poolRegion.count := by
  have force : s.enterRun.poolCapacity = ((takenRegion s.takenRegions .pool).map Region.capacity).getD 0 := rfl
  rw [force, takenRegion_pool]
  split
  · rfl
  · rename_i none
    have empty : s.poolRegion.count = 0 := Nat.eq_zero_of_not_pos fun some => none (.inr some)
    rw [empty]
    rfl

/-! ### Flushes -/

theorem State.afterRemoval_of_flowing {p : Port} (flowing : (s.port p).flow = .flowing) : s.afterRemoval p = s :=
  if_neg (by simp [PortState.asksResume, flowing])

theorem State.afterRemoval_of_empty {p : Port} (held : (s.port p).flow = .held) (marks : (s.port p).marks.isSome = true)
    (empty : (s.port p).queue = []) : s.afterRemoval p = s.sendResume p := by
  obtain ⟨⟨hw, lw⟩, set⟩ := Option.isSome_iff_exists.mp marks
  exact if_pos (by simp [PortState.asksResume, held, set, empty])

theorem ServiceState.flushed_eq (v : ServiceState) : v.flushed =
    (match v.openCue with | none => [] | some o => [o.body.id]) ++ v.queue.map fun c => c.body.id := by
  rcases opened : v.openCue with _ | o <;> simp [ServiceState.flushed, opened]

theorem State.foldl_markGone_ref (k : Service) (ids : List CueId) (s : State) :
    (ids.foldl (fun t id => t.markCue k id .gone) s).ref = s.ref := by
  induction ids generalizing s with
  | nil => rfl
  | cons id ids ih => rw [List.foldl_cons, ih]; simp

end Sys2Proof.Machine

open Sys2Proof.Machine

/-- Settles O60, by the tests of the layout check and what START, STOP and each flush leave. -/
theorem startStopFlush : Obligations.StartStopFlush := by
  refine ⟨⟨rfl, rfl, State.takenRegions_eq⟩, fun s carrying => ?replies, fun all => ?check⟩
  case check =>
    intro fails
    have same (x : Taken) : regionFailure all x = fails x := regionFailure_eq all x
    refine ⟨?_, fun n f => ?_⟩
    · simp only [layoutCheck_none_iff, same]
    · simp only [layoutCheck_some_iff, same]
  case replies =>
    intro reply
    have refused {c : Sys2Proof.Instr} {type : Sys2Proof.Byte} {act : State → Reply} {code : Code}
        (arm : exec c s = .next (s.command type act)) (acts : act s = refuse s code) : reply c type code .none s :=
      exec_carried carrying arm acts rfl
    refine ⟨fun run => refused rfl (inMode_of_ne s (by rw [run]; nofun) _), fun config => ⟨?_, fun n => ⟨?_, ?_⟩⟩,
      fun config => ⟨fun n f fails => ?_, fun passes => ?start⟩, fun run => ?stop, fun run => ⟨fun n range => ?_,
        fun n range => ?_, fun p => ?port, fun k => ?service⟩⟩
    · exact refused rfl (inMode_of_ne s (by rw [config]; nofun) _)
    · exact refused rfl (inMode_of_ne s (by rw [config]; nofun) _)
    · exact refused rfl (inMode_of_ne s (by rw [config]; nofun) _)
    · refine exec_carried (r := ⟨s, .layout, .layoutFailure n f⟩) carrying rfl ((inMode_of s config _).trans ?_) rfl
      rw [startPart, fails]
    case start =>
      have starts : reply .start 0x82 .ok .none s.enterRun := by
        refine exec_carried (r := done s.enterRun) carrying rfl ((inMode_of s config _).trans ?_) rfl
        rw [startPart, passes]
      refine ⟨s.enterRun, starts, enterRun_frame s, rfl, fun p => ⟨?_, ?_⟩, fun k => ⟨?_, ?_⟩, s.enterRun_poolCapacity,
        layoutOf s.takenRegions, rfl, fun p => ?_, fun k => ?_, takenRegion_pool s⟩
      · rw [State.enterRun_port, State.enterRun_portRegion]
        rfl
      · rw [State.enterRun_portRegion, takenRegion_port]
      · rw [State.enterRun_service]
        rfl
      · exact s.enterRun_queueCapacity k
      · exact (s.enterRun_portRegion p).trans (takenRegion_port s p)
      · exact (s.enterRun_serviceRegion k).trans (takenRegion_service_eq s k)
    case stop =>
      have stops : reply .stop 0x83 .ok .none s.leaveRun :=
        exec_carried (r := done s.leaveRun) carrying rfl (inMode_of s run _) rfl
      refine ⟨s.leaveRun, stops, (leaveRun_frame s).mono (by decide), rfl, rfl, rfl, rfl, ?_, fun p => ?_, fun g => ?_, fun k => ?_, ?_⟩
      · have shown (k : Sys2Proof.Service) : ((s.service k).display != .blank) = decide ((s.service k).display ≠ .blank) :=
          Bool.eq_iff_iff.mpr (bne_iff_ne.trans decide_eq_true_iff.symm)
        simp only [State.leaveRun, State.stopClears, shown]
      · rw [State.leaveRun_port]
        rfl
      · rw [State.leaveRun_group]
        rfl
      · rw [State.leaveRun_service]
        rfl
      · refine List.map_congr_left fun o _ => ?_
        cases o <;> rfl
    · exact refused rfl ((inMode_of s run _).trans (withIndex_of_le s range _))
    · exact refused rfl ((inMode_of s run _).trans (withIndex_of_le s range _))
    case port =>
      intro x n
      have flushes {t : State} (left : (s.setPort p x).afterRemoval p = t) (time : t.ref.smc = s.ref.smc) :
          reply (.flushPort p.val) 0x84 .ok (.count n) t := by
        refine exec_carried (r := ⟨t, .ok, .count n⟩) carrying rfl
          ((inMode_of s run _).trans ((withIndex_val s p _).trans ?_)) time
        rw [← left]
        rfl
      have port : (s.setPort p x).port p = x := by rw [State.port_setPort, if_pos rfl]
      refine ⟨fun flowing => flushes (State.afterRemoval_of_flowing (by rw [port]; exact flowing)) rfl, fun held marks => ?_⟩
      refine flushes ?_ rfl
      rw [State.afterRemoval_of_empty (by rw [port]; exact held) (by rw [port]; exact marks) (by rw [port]),
        State.sendResume, port, State.setPort_setPort]
    case service =>
      intro v ids
      have names : v.flushed = ids := v.flushed_eq
      have time : (flushServiceCues s k).state.ref = s.ref := State.foldl_markGone_ref k _ _
      rw [← names]
      exact exec_carried (r := flushServiceCues s k) carrying rfl
        ((inMode_of s run _).trans (withIndex_val s k _)) (congrArg RefUnit.smc time)
end

section
set_option Elab.async false
/-! SUPPORT. The due sequence (spec/07 R111), and what commit and skip make of a service (R113, R114). -/

namespace Sys2Proof.Machine

variable {s t : State}

/-! ### The prepared part -/

theorem numberFrom_length (u : RefUnit) (q : PlayPointer) (pos : Nat) (l : List PreparedCue) :
    (numberFrom u q pos l).length = l.length := by
  induction l generalizing pos with
  | nil => rfl
  | cons c l ih => rw [numberFrom, List.length_cons, List.length_cons, ih]

theorem numberFrom_getElem? (u : RefUnit) (q : PlayPointer) (pos : Nat) (l : List PreparedCue) (i : Nat) :
    (numberFrom u q pos l)[i]? =
      l[i]?.map fun c => ⟨c, q.package, pos + i, u.snap (q.switch + BitVec.ofNat 32 c.offset)⟩ := by
  induction l generalizing pos i with
  | nil => simp [numberFrom]
  | cons c l ih =>
    cases i with
    | zero => rfl
    | succ i =>
      rw [numberFrom, List.getElem?_cons_succ, List.getElem?_cons_succ, ih]
      simp [Nat.add_assoc, Nat.add_comm 1]

theorem State.preparedPart_of_none {k : Service} (none : (s.service k).pointer = none) : s.preparedPart k = [] := by
  simp only [State.preparedPart, none]

theorem State.preparedPart_of_some {k : Service} {q : PlayPointer} {r : PackageRecord}
    (plays : (s.service k).pointer = some q) (found : s.findPackage q.package = some r) :
    s.preparedPart k = numberFrom s.ref q q.pos (r.cues.drop (q.pos - 1)) := by
  simp only [State.preparedPart, plays, found]

/-! ### The merge -/

theorem mergeDue_nil (l : List CueRecord) : mergeDue l [] = l.map .live := by
  induction l with
  | nil => rfl
  | cons c l ih => rw [mergeDue, List.takeWhile_nil, List.dropWhile_nil, ih]; rfl

theorem mergeDue_split {l : CueRecord} (ls : List CueRecord) {before after : List PreparedDue}
    (low : ∀ x ∈ before, (x.present - l.present).toInt ≤ 0)
    (high : ∀ x, after.head? = some x → 0 < (x.present - l.present).toInt) :
    mergeDue (l :: ls) (before ++ after) = before.map .prepared ++ .live l :: mergeDue ls after := by
  have all : ∀ x ∈ before, (!later x.present l.present) = true := fun x member => by
    rw [Bool.not_eq_true', not_later_iff]
    exact low x member
  have stops : (after.takeWhile fun x => !later x.present l.present) = [] ∧
      (after.dropWhile fun x => !later x.present l.present) = after := by
    cases after with
    | nil => exact ⟨rfl, rfl⟩
    | cons x after =>
      have late : later x.present l.present = true := (later_iff _ _).mpr (high x rfl)
      simp [late]
  rw [mergeDue, List.takeWhile_append_of_pos all, List.dropWhile_append_of_pos all, stops.1, stops.2, List.append_nil]

/-! ### What is due -/

theorem State.isDue_iff (s : State) (d : Due) : s.isDue d = true ↔
    (d.present - (s.ref.smc + BitVec.ofNat 32 (s.ref.rate.step s.ref.phase))).toInt ≤ 0 := by
  rw [State.isDue, Bool.not_eq_true', not_later_iff]
  rfl

theorem takeWhile_of_head {α : Type} {p : α → Bool} {l : List α} (stops : ∀ x, l.head? = some x → p x = false) :
    l.takeWhile p = [] := by
  cases l with
  | nil => rfl
  | cons x l => simp [stops x rfl]

theorem State.commitStep_of_due {k : Service} {early : List Due} {d : Due} {rest : List Due}
    (sequence : s.dueSequence k = early ++ d :: rest) (dueEarly : ∀ x ∈ early, s.isDue x = true) (due : s.isDue d = true)
    (stops : ∀ x, rest.head? = some x → s.isDue x = false) :
    s.commitStep k = ((early.foldl (State.skipDue k) s).supersede k).commitDue k d := by
  have dues : (s.dueSequence k).takeWhile s.isDue = early ++ [d] := by
    rw [sequence, List.takeWhile_append_of_pos dueEarly, List.takeWhile_cons, if_pos due, takeWhile_of_head stops]
  simp only [State.commitStep, dues, List.getLast?_append, List.getLast?_singleton, List.dropLast_concat, Option.some_or]

theorem State.commitStep_of_none {k : Service} (none : ∀ d, (s.dueSequence k).head? = some d → s.isDue d = false) :
    s.commitStep k = s := by
  simp only [State.commitStep, takeWhile_of_head none, List.getLast?_nil]

/-! ### Commit -/

theorem State.enterSlot_eq (s : State) (k : Service) (x : CommittedSource) {v : ServiceState}
    (place : v.place x.height = (s.service k).place x.height) : s.enterSlot k x =
      (s.setService k { s.service k with
        committed := some ⟨x, (v.place x.height).1, (v.place x.height).2, false⟩ }).raiseIf (v.place x.height).2
        (serviceEvent .strapConflict k) := by
  rw [place]
  rfl

theorem State.commitDue_live (s : State) (k : Service) (c : CueRecord) : s.commitDue k (.live c) =
    let place := (s.service k).place (if c.body.row2 = [] then 1 else 2)
    ((s.setService k { s.service k with
      queue := (s.service k).queue.tail
      committed := some ⟨.live c, place.1, place.2, false⟩ }).markCue k c.body.id .committed).raiseIf place.2
        (serviceEvent .strapConflict k) := by
  rw [State.commitDue, State.enterSlot_eq (v := s.service k)]
  · simp only [State.markCue_service, State.service_setService, if_pos, State.markCue_setService, State.setService_setService]
    rfl
  · simp only [State.markCue_service, State.service_setService, if_pos]
    rfl

theorem PreparedDue.given_truncated (x : PreparedDue) (w : Nat) : (x.given w).truncated = decide (0 < x.cuts w) := by
  have sum (a b : Prop) [Decidable a] [Decidable b] :
      (decide a || decide b) = decide (0 < (if a then 1 else 0) + (if b then 1 else 0)) := by
    by_cases ha : a <;> by_cases hb : b <;> simp [ha, hb]
  exact sum _ _

theorem State.commitDue_prepared (s : State) (k : Service) (x : PreparedDue) : s.commitDue k (.prepared x) =
    let w := (s.service k).par.rowWidth
    let place := (s.service k).place (if x.cue.row2.isSome then 2 else 1)
    ((s.raiseTimes (serviceEvent .wordTruncated k) (x.cuts w)).setService k { s.service k with
      pointer := (s.service k).pointer.map fun q => { q with pos := q.pos + 1 }
      committed := some ⟨.prepared ⟨x.package, x.position, x.cue.row1.take w, x.cue.row2.map fun y => y.take w,
        x.cue.duration, x.present, x.cue.speaker, decide (0 < x.cuts w)⟩, place.1, place.2, false⟩ }).raiseIf place.2
          (serviceEvent .strapConflict k) := by
  have height : (CommittedSource.prepared (x.given (s.service k).par.rowWidth)).height =
      if x.cue.row2.isSome then 2 else 1 := by simp [CommittedSource.height, PreparedDue.given]
  simp only [State.commitDue]
  rw [State.enterSlot_eq (v := s.service k), height]
  · simp only [State.raiseTimes_service, State.service_setService, if_pos, State.raiseTimes_setService,
      State.setService_setService, ← PreparedDue.given_truncated]
    rfl
  · simp only [State.raiseTimes_service, State.service_setService, if_pos]
    rfl

/-! ### What skip and supersede leave -/

/-- A live cue of a due sequence. -/
def Due.isLive : Due → Bool
  | .live _ => true
  | .prepared _ => false

theorem State.skipDue_reads (s : State) (k : Service) (d : Due) :
    ((s.skipDue k d).service k).queue = (s.service k).queue.drop (if d.isLive then 1 else 0) ∧
      (∀ h, ((s.skipDue k d).service k).place h = (s.service k).place h) ∧
      ((s.skipDue k d).service k).committed = (s.service k).committed := by
  cases d <;> simp [State.skipDue, Due.isLive, ServiceState.place, ServiceState.advance]

theorem State.foldl_skipDue_reads (k : Service) (l : List Due) (s : State) :
    ((l.foldl (State.skipDue k) s).service k).queue = (s.service k).queue.drop (l.countP Due.isLive) ∧
      (∀ h, ((l.foldl (State.skipDue k) s).service k).place h = (s.service k).place h) := by
  induction l generalizing s with
  | nil => exact ⟨rfl, fun _ => rfl⟩
  | cons d l ih =>
    obtain ⟨queue, place⟩ := ih (s.skipDue k d)
    obtain ⟨first, same, -⟩ := s.skipDue_reads k d
    rw [List.foldl_cons, queue, first, List.drop_drop, List.countP_cons, Nat.add_comm]
    exact ⟨rfl, fun h => (place h).trans (same h)⟩

theorem countP_live (l : List CueRecord) : (l.map Due.live).countP Due.isLive = l.length := by
  rw [List.countP_map]
  exact List.countP_eq_length.mpr fun _ _ => rfl

theorem State.supersede_reads (s : State) (k : Service) : ((s.supersede k).service k).queue = (s.service k).queue ∧
    ((s.supersede k).service k).pointer = (s.service k).pointer ∧
    ((s.supersede k).service k).par = (s.service k).par ∧
      ∀ h, ((s.supersede k).service k).place h = (s.service k).place h := by
  rcases waits : (s.service k).committed with _ | c <;> simp [State.supersede, waits, ServiceState.place]

end Sys2Proof.Machine

open Sys2Proof.Machine

/-- Settles O48, by the split of the due sequence and what each due cue becomes. -/
theorem commitStep : Obligations.CommitStep := by
  intro s k v next due skipped conflict superseded
  have isDue (d : Due) : s.isDue d = true ↔ due d.present := s.isDue_iff d
  have notDue (d : Due) : s.isDue d = false ↔ ¬ due d.present := by rw [← isDue, Bool.not_eq_true]
  have commits (early : List Due) (d : Due) (rest : List Due) (sequence : s.dueSequence k = early ++ d :: rest)
      (dueEarly : ∀ x ∈ early, due x.present) (dueLast : due d.present)
      (stops : ∀ x, rest.head? = some x → ¬ due x.present) :
      s.commitStep k = (superseded (early.foldl (State.skipDue k) s)).commitDue k d :=
    State.commitStep_of_due sequence (fun x member => (isDue x).mpr (dueEarly x member)) ((isDue d).mpr dueLast)
      fun x first => (notDue x).mpr (stops x first)
  have idle (none : ∀ d, (s.dueSequence k).head? = some d → ¬ due d.present) : s.commitStep k = s :=
    State.commitStep_of_none fun d first => (notDue d).mpr (none d first)
  have plain (none : v.pointer = Option.none) : s.dueSequence k = v.queue.map .live := by
    rw [State.dueSequence, State.preparedPart_of_none none, mergeDue_nil]
  refine ⟨fun q r plays found => ?numbered, rfl, fun ps => rfl, fun empty => ?_, plain, fun l ls before after low high =>
    mergeDue_split ls low high, commits, idle, fun c => rfl, fun c => s.commitDue_live k c, fun x => ?prepared, fun x => rfl,
    fun none empty => idle ?_, fun c rest none queue waits => idle ?_, fun early c rest none queue dueEarly dueLast stops =>
    ?live, fun q r c plays empty found cues => ?single⟩
  case numbered =>
    rw [State.preparedPart_of_some plays found]
    refine ⟨(numberFrom_length _ _ _ _).trans List.length_drop, fun i x place => ?_⟩
    rw [numberFrom_getElem?, List.getElem?_drop] at place
    obtain ⟨c, cue, rfl⟩ := Option.map_eq_some_iff.mp place
    exact ⟨cue, rfl, rfl, rfl⟩
  · rw [State.dueSequence, show (s.service k).queue = [] from empty]
    rfl
  case prepared =>
    intro w cuts place
    exact s.commitDue_prepared k x
  · rw [plain none, empty]
    nofun
  · rw [plain none, queue]
    rintro d ⟨⟩
    exact waits
  case live =>
    intro t place
    have sequence : s.dueSequence k = early.map .live ++ .live c :: rest.map .live := by
      rw [plain none, queue, List.map_append, List.map_cons]
    have committed := commits _ _ _ sequence (fun x member => by
      obtain ⟨y, listed, rfl⟩ := List.mem_map.mp member
      exact dueEarly y listed) dueLast fun x first => by
        rw [List.head?_map] at first
        obtain ⟨y, head, rfl⟩ := Option.map_eq_some_iff.mp first
        exact stops y head
    have skips : (early.map Due.live).foldl (State.skipDue k) s = early.foldl (fun u x => ((u.setService k { u.service k with
        queue := (u.service k).queue.tail }).markCue k x.body.id .gone).raise skipped) s := List.foldl_map
    obtain ⟨left, same⟩ := State.foldl_skipDue_reads k (early.map .live) s
    obtain ⟨left', -, -, same'⟩ := State.supersede_reads ((early.map Due.live).foldl (State.skipDue k) s) k
    have tail : (t.service k).queue.tail = rest := by
      have := left'.trans left
      rw [countP_live, show (s.service k).queue = early ++ c :: rest from queue, List.drop_left, skips] at this
      exact congrArg List.tail this
    have places (h : Nat) : (t.service k).place h = v.place h := by
      have := (same' h).trans (same h)
      rwa [skips] at this
    rw [skips] at committed
    refine committed.trans ((State.commitDue_live t k c).trans ?_)
    rw [places, tail]
    rfl
  case single =>
    intro time w row2 cuts place t
    have sequence : s.dueSequence k = [.prepared ⟨c, q.package, q.pos, time⟩] := by
      rw [State.dueSequence, show (s.service k).queue = [] from empty, State.preparedPart_of_some plays found, cues]
      rfl
    refine ⟨fun waits => idle ?_, fun dueTime => ?_⟩
    · rw [sequence]
      rintro d ⟨⟩
      exact waits
    · obtain ⟨-, pointer, par, places⟩ : _ ∧ (t.service k).pointer = _ ∧ (t.service k).par = v.par ∧
          ∀ h, (t.service k).place h = v.place h := s.supersede_reads k
      have points : (t.service k).pointer = some q := pointer.trans plays
      have committed := commits [] _ [] sequence nofun dueTime nofun
      refine committed.trans ((State.commitDue_prepared t k _).trans ?_)
      rw [par, points, places]
      rfl
end

section
set_option Elab.async false
/-! SUPPORT. The order of a cue queue (spec/05 R85 to R87, spec/06 R102, spec/07 R113): modular times read as gaps from the
current SMC, what a close makes of the queue's tail, and what a commit leaves queued. -/

namespace Sys2Proof.Machine

variable {s t : State}

/-! ### Gaps from one moment -/

/-- How far an SMC value lies ahead of a moment, negative behind it. -/
def gapFrom (u x : Smc) : Int := (x - u).toInt

theorem gapFrom_self (u : Smc) : gapFrom u u = 0 := by simp [gapFrom]

theorem bmod_of_small {n : Int} (low : -(2 ^ 31) ≤ n) (high : n < 2 ^ 31) : n.bmod (2 ^ 32) = n :=
  Int.bmod_eq_of_le (by omega) (by omega)

/-- While two gaps differ by less than half the range, the values compare as their gaps do. -/
theorem toInt_sub_eq (u a b : Smc) (low : -(2 ^ 31) ≤ gapFrom u a - gapFrom u b)
    (high : gapFrom u a - gapFrom u b < 2 ^ 31) : (a - b).toInt = gapFrom u a - gapFrom u b := by
  have apart : a - b = (a - u) - (b - u) := by ring
  rw [apart, BitVec.toInt_sub]
  exact bmod_of_small low high

theorem gapFrom_plus (u x : Smc) (d : Nat) (low : -(2 ^ 31) ≤ gapFrom u x + d) (high : gapFrom u x + d < 2 ^ 31) :
    gapFrom u (plus x d) = gapFrom u x + d := by
  have apart : plus x d - u = (x - u) + BitVec.ofNat 32 d := by
    rw [plus]
    ring
  rw [gapFrom, apart, BitVec.toInt_add, BitVec.toInt_ofNat', Int.add_bmod_bmod]
  exact bmod_of_small low high

theorem gapFrom_minus (u x : Smc) (d : Nat) (low : -(2 ^ 31) ≤ gapFrom u x - d) (high : gapFrom u x - d < 2 ^ 31) :
    gapFrom u (minus x d) = gapFrom u x - d := by
  have apart : minus x d - u = (x - u) - BitVec.ofNat 32 d := by
    rw [minus]
    ring
  rw [gapFrom, apart, BitVec.toInt_sub, BitVec.toInt_ofNat', Int.sub_bmod_bmod]
  exact bmod_of_small low high

theorem gapFrom_laterOf (u a b : Smc) (low : -(2 ^ 31) ≤ gapFrom u b - gapFrom u a)
    (high : gapFrom u b - gapFrom u a < 2 ^ 31) : gapFrom u (laterOf a b) = max (gapFrom u a) (gapFrom u b) := by
  rw [laterOf_eq, toInt_sub_eq u b a low high]
  split <;> omega

/-- The snap of a time lies at it or behind it, by 40 ms at most. -/
theorem gapFrom_snap (r : RefUnit) (x : Smc) (high : gapFrom r.smc x < 2 ^ 30) :
    gapFrom r.smc x ≤ gapFrom r.smc (r.snap x) ∧ gapFrom r.smc (r.snap x) ≤ max 0 (gapFrom r.smc x) + 40 := by
  by_cases ahead : later x r.smc = true
  · have pos : 0 < gapFrom r.smc x := (later_iff x r.smc).mp ahead
    obtain ⟨n, -, snap, reach, near, -⟩ := r.rate.snapGap_spec r.phase (gap := (gapFrom r.smc x).toNat) (by omega)
    have value : gapFrom r.smc (r.snap x) = r.rate.snapGap r.phase (gapFrom r.smc x).toNat := by
      rw [RefUnit.snap, if_pos ahead]
      refine (gapFrom_plus _ _ _ ?_ ?_).trans ?_
      all_goals rw [gapFrom_self, show elapsed r.smc x = gapFrom r.smc x from rfl]
      all_goals omega
    omega
  · have behind : ¬ 0 < gapFrom r.smc x := fun pos => ahead ((later_iff x r.smc).mpr pos)
    rw [RefUnit.snap, if_neg ahead, gapFrom_self]
    omega

/-! ### The presentation time of a close -/

/-- The gap of the snap of `laterOf`s: how the stages of a close add up. -/
theorem timeCue_present (u : RefUnit) (v : ServiceState) (b : CueBody)
    (held : ∀ x, v.previous = some x →
      (-(2 ^ 29) ≤ gapFrom u.smc x.1 ∧ gapFrom u.smc x.1 ≤ 2 ^ 29) ∧ v.holdFor x.2 + v.par.gap ≤ 2 ^ 20)
    (anchor : -(2 ^ 29) ≤ gapFrom u.smc b.anchor ∧ gapFrom u.smc b.anchor ≤ 2 ^ 29)
    (live : ∀ x, v.liveStart = some x → -(2 ^ 30 + 2 ^ 20) ≤ gapFrom u.smc x ∧ gapFrom u.smc x ≤ 2 ^ 29)
    (delay : v.par.delay ≤ 12000) (lead : v.par.lead ≤ 1000) (margin : v.par.closeMargin ≤ 1000) :
    let p := gapFrom u.smc (timeCue u v b u.smc).record.present
    (v.par.closeMargin : Int) ≤ p ∧ p ≤ 2 ^ 29 + 2 ^ 21 ∧
      ∀ x, v.previous = some x → gapFrom u.smc x.1 + (v.holdFor x.2 + v.par.gap : Nat) ≤ p := by
  have delayed : gapFrom u.smc (plus b.anchor v.par.delay) = gapFrom u.smc b.anchor + v.par.delay :=
    gapFrom_plus _ _ _ (by omega) (by omega)
  have target : gapFrom u.smc (v.target b.anchor) = gapFrom u.smc b.anchor + v.par.delay - v.par.lead := by
    rw [ServiceState.target, gapFrom_minus _ _ _ (by omega) (by omega), delayed]
  have limit : gapFrom u.smc (plus u.smc v.par.closeMargin) = v.par.closeMargin := by
    rw [gapFrom_plus _ _ _ (by rw [gapFrom_self]; omega) (by rw [gapFrom_self]; omega), gapFrom_self, zero_add]
  obtain ⟨t1, first⟩ : ∃ x, laterOf (v.target b.anchor) (plus u.smc v.par.closeMargin) = x := ⟨_, rfl⟩
  have gap1 : gapFrom u.smc t1 = max (gapFrom u.smc b.anchor + v.par.delay - v.par.lead) v.par.closeMargin := by
    rw [← first, gapFrom_laterOf _ _ _ (by omega) (by omega), target, limit]
  obtain ⟨t2, second⟩ : ∃ x, (match v.holdLimit with | none => t1 | some h => laterOf t1 h) = x := ⟨_, rfl⟩
  have gap2 : gapFrom u.smc t1 ≤ gapFrom u.smc t2 ∧ gapFrom u.smc t2 ≤ 2 ^ 29 + 2 ^ 20 + 2 ^ 14 ∧
      ∀ x, v.previous = some x → gapFrom u.smc x.1 + (v.holdFor x.2 + v.par.gap : Nat) ≤ gapFrom u.smc t2 := by
    rcases previous : v.previous with _ | x
    · have none : v.holdLimit = none := by rw [ServiceState.holdLimit, previous]; rfl
      rw [none] at second
      subst second
      refine ⟨le_rfl, ?_, nofun⟩
      change gapFrom u.smc t1 ≤ _
      omega
    · have some : v.holdLimit = some (plus (plus x.1 (v.holdFor x.2)) v.par.gap) := by
        rw [ServiceState.holdLimit, previous]
        rfl
      obtain ⟨⟨low, high⟩, short⟩ := held x previous
      have hold : gapFrom u.smc (plus (plus x.1 (v.holdFor x.2)) v.par.gap) =
          gapFrom u.smc x.1 + v.holdFor x.2 + v.par.gap := by
        have inner := gapFrom_plus u.smc x.1 (v.holdFor x.2) (by omega) (by omega)
        rw [gapFrom_plus _ _ _ (by omega) (by omega), inner]
      rw [some] at second
      subst second
      simp only at *
      rw [gapFrom_laterOf _ _ _ (by omega) (by omega), hold]
      refine ⟨le_max_left _ _, by omega, ?_⟩
      rintro _ ⟨⟩
      omega
  obtain ⟨t3, third⟩ : ∃ x, (match v.liveStart with | none => t2 | some bl => laterOf t2 bl) = x := ⟨_, rfl⟩
  have gap3 : gapFrom u.smc t2 ≤ gapFrom u.smc t3 ∧ gapFrom u.smc t3 ≤ 2 ^ 29 + 2 ^ 20 + 2 ^ 14 := by
    rcases start : v.liveStart with _ | x <;> rw [start] at third <;> subst third
    · exact ⟨le_rfl, gap2.2.1⟩
    · have near := live x start
      rw [gapFrom_laterOf _ _ _ (by omega) (by omega)]
      omega
  have present : (timeCue u v b u.smc).record.present = u.snap t3 := by
    rw [← third, ← second, ← first]
    rfl
  obtain ⟨reach, near⟩ := gapFrom_snap u t3 (by omega)
  rw [present]
  refine ⟨by omega, by omega, fun x previous => ?_⟩
  have := gap2.2.2 x previous
  omega

/-! ### The queue behind a close -/

theorem State.insertCue_queue (s : State) (k : Service) (c : CueRecord) :
    ∃ kept, kept.Sublist (s.service k).queue ∧ ((s.insertCue k c).service k).queue = kept ++ [c] := by
  unfold State.insertCue
  dsimp only
  split
  · exact ⟨_, List.Sublist.refl _, by simp⟩
  · split
    next empty => exact ⟨[], List.nil_sublist _, by simp⟩
    next h rest queue => exact ⟨rest, queue ▸ List.sublist_cons_self h rest, by simp⟩

theorem State.closeCue_queue (s : State) (k : Service) :
    ((s.closeCue k).service k).queue = (s.service k).queue ∨
      ∃ o kept, (s.service k).openCue = some o ∧ kept.Sublist (s.service k).queue ∧
        ((s.closeCue k).service k).queue =
          kept ++ [(timeCue s.ref (s.service k) o.body s.ref.smc).record] := by
  rcases opened : (s.service k).openCue with _ | o
  · rw [State.closeCue_of_none opened]
    exact .inl rfl
  · rw [State.closeCue_of_some opened rfl]
    generalize timed : timeCue s.ref (s.service k) o.body s.now = x
    cases cut : x.cut
    · rw [State.settleTimed_of_kept cut]
      obtain ⟨kept, sub, queue⟩ := (s.closing k x ((s.service k).closed x)).insertCue_queue k x.record
      have record : (timeCue s.ref (s.service k) o.body s.ref.smc).record = x.record := congrArg Timed.record timed
      exact .inr ⟨o, kept, rfl, by simpa [ServiceState.closed] using sub, record ▸ queue⟩
    · rw [State.settleTimed_of_cut k cut]
      left
      simp

theorem State.closeCue_shown (s : State) (k : Service) (r : ShowRecord)
    (after : ((s.closeCue k).service k).display = .showing r) :
    ∃ r', (s.service k).display = .showing r' ∧ r'.shown = r.shown :=
  ((Changes.closeCue (a := Allow.inner) .refl k).shown k r after).resolve_right fun sent => sent.1

/-- What keeps the tail of a queue the latest: no queued cue lies behind it. -/
theorem gap_le_tail {u : Smc} {q : List CueRecord} {tail : CueRecord}
    (rising : q.Pairwise fun a b => 0 < (b.present - a.present).toInt) (last : q.getLast? = some tail)
    (near : ∀ c ∈ q, -(2 ^ 29) ≤ gapFrom u c.present ∧ gapFrom u c.present ≤ 2 ^ 29) :
    ∀ c ∈ q, gapFrom u c.present ≤ gapFrom u tail.present := by
  obtain ⟨front, rfl⟩ := List.getLast?_eq_some_iff.mp last
  intro c member
  rcases List.mem_append.mp member with early | same
  · have later := (List.pairwise_append.mp rising).2.2 c early tail (List.mem_singleton_self _)
    have nearC := near c member
    have nearTail := near tail (List.mem_append_right _ (List.mem_singleton_self _))
    rw [toInt_sub_eq u _ _ (by omega) (by omega)] at later
    omega
  · rw [List.mem_singleton.mp same]

/-! ### The queue behind a commit -/

/-- A cue that joins behind a rising queue's tail keeps it rising. -/
theorem rising_concat {u : Smc} {q kept : List CueRecord} {c : CueRecord}
    (rising : q.Pairwise fun a b => 0 < (b.present - a.present).toInt) (sub : kept.Sublist q)
    (near : ∀ x ∈ q, -(2 ^ 29) ≤ gapFrom u x.present ∧ gapFrom u x.present ≤ 2 ^ 29)
    (joins : ∀ tail, q.getLast? = some tail →
      gapFrom u tail.present < gapFrom u c.present ∧ gapFrom u c.present ≤ 2 ^ 30) :
    (kept ++ [c]).Pairwise fun a b => 0 < (b.present - a.present).toInt := by
  refine List.pairwise_append.mpr ⟨rising.sublist sub, List.pairwise_singleton _ _, fun x member y same => ?_⟩
  obtain rfl := List.mem_singleton.mp same
  have queued := sub.subset member
  obtain ⟨tail, last⟩ : ∃ tail, q.getLast? = some tail := by
    rw [← Option.isSome_iff_exists, List.getLast?_isSome]
    exact List.ne_nil_of_mem queued
  have behind := gap_le_tail rising last near x queued
  obtain ⟨later, high⟩ := joins tail last
  have nearX := near x queued
  rw [toInt_sub_eq u _ _ (by omega) (by omega)]
  omega

theorem State.commitDue_queue (s : State) (k : Service) (d : Due) : ((s.commitDue k d).service k).queue =
    (s.service k).queue.drop (if d.isLive then 1 else 0) := by
  cases d with
  | live c => rw [State.commitDue_live]; simp [Due.isLive]
  | prepared x => rw [State.commitDue_prepared]; simp [Due.isLive]

theorem State.commitStep_queue (s : State) (k : Service) : ((s.commitStep k).service k).queue =
    (s.service k).queue.drop (((s.dueSequence k).takeWhile s.isDue).countP Due.isLive) := by
  unfold State.commitStep
  generalize (s.dueSequence k).takeWhile s.isDue = due
  rcases last : due.getLast? with _ | d
  · rw [List.getLast?_eq_none_iff.mp last]
    rfl
  · obtain ⟨early, rfl⟩ := List.getLast?_eq_some_iff.mp last
    simp only [List.getLast?_append, List.getLast?_singleton, Option.some_or, List.dropLast_concat]
    rw [State.commitDue_queue, (State.supersede_reads _ k).1, (State.foldl_skipDue_reads k early s).1, List.drop_drop,
      List.countP_append, List.countP_singleton]

theorem takeWhile_append_cons {α : Type} {p : α → Bool} {x : α} (stops : p x = false) (before after : List α) :
    (before ++ x :: after).takeWhile p = before.takeWhile p := by
  induction before with
  | nil => simp [stops]
  | cons y before ih => rw [List.cons_append, List.takeWhile_cons, List.takeWhile_cons, ih]

/-- Where the queue rises, a merge leaves none of its cues that is due behind the first that is not. -/
theorem drop_dues {f : Smc → Int} {n : Int} {isDue : Due → Bool} (due : ∀ d, isDue d = true ↔ f d.present ≤ n)
    (q : List CueRecord) (ps : List PreparedDue) (rising : q.Pairwise fun a b => f a.present < f b.present)
    (compare : ∀ l ∈ q, ∀ p ∈ ps, later p.present l.present = false ↔ f p.present ≤ f l.present) :
    ∀ c ∈ q.drop (((mergeDue q ps).takeWhile isDue).countP Due.isLive), n < f c.present := by
  induction q generalizing ps with
  | nil => simp
  | cons l q ih =>
    obtain ⟨first, rising⟩ := List.pairwise_cons.mp rising
    have low : ∀ p ∈ ps.takeWhile fun x => !later x.present l.present, f p.present ≤ f l.present := fun p member =>
      (compare l List.mem_cons_self p (List.takeWhile_subset _ member)).mp (by simpa using List.mem_takeWhile_imp member)
    rw [mergeDue]
    by_cases dueL : f l.present ≤ n
    · have early : ∀ d ∈ (ps.takeWhile fun x => !later x.present l.present).map Due.prepared, isDue d = true := by
        intro d member
        obtain ⟨p, listed, rfl⟩ := List.mem_map.mp member
        exact (due _).mpr ((low p listed).trans dueL)
      have lives : ((ps.takeWhile fun x => !later x.present l.present).map Due.prepared).countP Due.isLive = 0 :=
        List.countP_eq_zero.mpr fun d member => by
          obtain ⟨p, -, rfl⟩ := List.mem_map.mp member
          nofun
      have live : (Due.live l).isLive = true := rfl
      rw [List.takeWhile_append_of_pos early, List.takeWhile_cons, if_pos ((due (.live l)).mpr dueL), List.countP_append,
        lives, List.countP_cons, zero_add, if_pos live, List.drop_succ_cons]
      exact ih _ rising fun l' listed p member =>
        compare l' (List.mem_cons_of_mem _ listed) p (List.dropWhile_subset _ member)
    · have lives : (((ps.takeWhile fun x => !later x.present l.present).map Due.prepared ++ .live l ::
          mergeDue q (ps.dropWhile fun x => !later x.present l.present)).takeWhile isDue).countP Due.isLive = 0 := by
        rw [takeWhile_append_cons (Bool.not_eq_true _ ▸ fun d => dueL ((due (.live l)).mp d))]
        refine List.countP_eq_zero.mpr fun d member => ?_
        obtain ⟨p, -, rfl⟩ := List.mem_map.mp (List.takeWhile_subset _ member)
        nofun
      rw [lives]
      intro c member
      rcases List.mem_cons.mp member with rfl | behind
      · omega
      · have := first c behind
        omega

/-! ### What a send leaves -/

theorem State.coverCheck_reads (s : State) (k : Service) : ((s.coverCheck k).service k).queue = (s.service k).queue ∧
    ∀ r, ((s.coverCheck k).service k).display = .showing r →
      ∃ r', (s.service k).display = .showing r' ∧ r'.shown = r.shown := by
  rcases display : (s.service k).display with _ | held
  · have idle : s.coverCheck k = s := by simp only [State.coverCheck, display]
    rw [idle, display]
    exact ⟨rfl, nofun⟩
  · by_cases meets : ((s.service k).heldBand held).meetsMap (s.service k).rowMap = true
    · rw [State.coverCheck_of_meets display meets]
      refine ⟨by simp, fun r shown => ⟨held, rfl, ?_⟩⟩
      simp only [State.raiseIf_service, State.service_setService, if_pos, Display.showing.injEq] at shown
      rw [← shown]
    · rw [State.coverCheck_of_clear display meets, display]
      exact ⟨rfl, fun r shown => ⟨r, shown, rfl⟩⟩

theorem State.sendShow_reads (s : State) (k : Service) (c : Committed) :
    ((s.sendShow k c).service k).queue = (s.service k).queue ∧
      ∀ r, ((s.sendShow k c).service k).display = .showing r → r.shown = s.ref.smc := by
  have checked (u : State) (queue : (u.service k).queue = (s.service k).queue)
      (shown : ∀ r, (u.service k).display = .showing r → r.shown = s.ref.smc) :
      ((if c.mapChanged = true then u.coverCheck k else u).service k).queue = (s.service k).queue ∧
        ∀ r, ((if c.mapChanged = true then u.coverCheck k else u).service k).display = .showing r →
          r.shown = s.ref.smc := by
    obtain ⟨same, held⟩ := u.coverCheck_reads k
    split
    · refine ⟨same.trans queue, fun r after => ?_⟩
      obtain ⟨r', before, same⟩ := held r after
      exact same ▸ shown r' before
    · exact ⟨queue, shown⟩
  rcases source : c.source with x | x
  · rw [State.sendShow_of_live source]
    refine checked _ (by simp) fun r display => ?_
    simp only [State.raise_service, State.sendOutput_service, State.service_setService, if_pos,
      Display.showing.injEq] at display
    rw [← display]
  · rw [State.sendShow_of_prepared source]
    refine checked _ (by simp) fun r display => ?_
    simp only [State.sendOutput_service, State.service_setService, if_pos, Display.showing.injEq] at display
    rw [← display]

/-! ### What a step leaves -/

/-- The cues of a queue stay in their order, and those that join stand behind them, each closed at one of two moments. -/
def QueueCourse (first last : Smc) (before after : List CueRecord) : Prop :=
  ∃ kept joined, after.map CueRecord.key = kept ++ joined ∧ kept.Sublist (before.map CueRecord.key) ∧
    ∀ x ∈ joined, x.2.2 = first ∨ x.2.2 = last

theorem QueueStep.chain {first last : Smc} {l m n : List CueRecord} (h : QueueStep first l m) (k : QueueStep last m n) :
    QueueCourse first last l n := by
  obtain ⟨kept, joined, eq, sub, new⟩ := h
  obtain ⟨kept', joined', eq', sub', new'⟩ := k
  rw [eq] at sub'
  obtain ⟨a, b, rfl, subA, subB⟩ := List.sublist_append_iff.mp sub'
  refine ⟨a, b ++ joined', by simp [eq'], subA.trans sub, fun x member => ?_⟩
  rcases List.mem_append.mp member with old | late
  · exact .inl (new x (subB.subset old))
  · exact .inr (new' x late)

theorem QueueCourse.rising {first last : Smc} {l m : List CueRecord} (course : QueueCourse first last l m)
    (rising : l.Pairwise fun a b => 0 < (b.present - a.present).toInt)
    (none : ∀ c ∈ m, c.close ≠ first ∧ c.close ≠ last) : m.Pairwise fun a b => 0 < (b.present - a.present).toInt := by
  obtain ⟨kept, joined, eq, sub, new⟩ := course
  have empty : joined = [] := List.eq_nil_iff_forall_not_mem.mpr fun x member => by
    obtain ⟨c, queued, rfl⟩ := List.mem_map.mp (eq ▸ List.mem_append_right kept member)
    exact (new _ member).elim (none c queued).1 (none c queued).2
  rw [empty, List.append_nil] at eq
  have keys : (l.map CueRecord.key).Pairwise fun a b => 0 < (b.2.1 - a.2.1).toInt := List.pairwise_map.mpr rising
  exact List.pairwise_map.mp (eq ▸ keys.sublist sub)

theorem State.advanceBoundary_service (s : State) (m : Moment) (k : Service) :
    (s.advanceBoundary m).service k =
      { s.service k with switches := (s.service k).switches.map fun e => { e with armed := true } } :=
  (State.raiseIf_service ..).trans (s.advanced_service m k)

theorem Course.queue {c : Instr} (h : Course c s t) (k : Service) :
    QueueCourse s.ref.smc t.ref.smc (s.service k).queue (t.service k).queue ∧
      ∀ r, (t.service k).display = .showing r →
        r.shown = t.ref.smc ∨ ∃ r', (s.service k).display = .showing r' ∧ r'.shown = r.shown := by
  cases h with
  | work h =>
    refine ⟨(h.queue k).chain (QueueStep.refl _ _), fun r shown => .inr ?_⟩
    exact (h.shown k r shown).resolve_right fun sent => sent.1
  | @boundary u _ m made before _ _ after =>
    have now : (u.advanceBoundary m).now = t.ref.smc := after.smc.symm
    have later := after.queue k
    have shown := after.shown k
    rw [u.advanceBoundary_service m k, now] at later shown
    refine ⟨(before.queue k).chain later, fun r display => ?_⟩
    rcases shown r display with ⟨r', held, same⟩ | sent
    · obtain ⟨q, first, still⟩ := (before.shown k r' held).resolve_right fun sent => sent.1
      exact .inr ⟨q, first, still.trans same⟩
    · exact .inl sent.2
  | reset =>
    have service : (s.afterReset).service k = .reset := State.reset_service k
    rw [show ({ State.reset with pending := s.pending, sent := s.sent, freeIndex := s.freeIndex } : State).service k = .reset
      from service]
    exact ⟨⟨[], [], rfl, List.nil_sublist _, nofun⟩, nofun⟩
  | @start u x _ before =>
    have service : ({ u.enterRun with sup := x } : State).service k = (u.service k).started := u.enterRun_service k
    rw [service]
    exact ⟨(before.queue k).chain (QueueStep.refl _ _), fun r shown =>
      .inr ((before.shown k r shown).resolve_right fun sent => sent.1)⟩
  | @stop u x _ before =>
    have service : ({ u.leaveRun with sup := x } : State).service k = (u.service k).stopped := u.leaveRun_service k
    rw [service]
    exact ⟨⟨[], [], rfl, List.nil_sublist _, nofun⟩, nofun⟩

end Sys2Proof.Machine

open Sys2Proof.Machine

/-- Settles O43: times as gaps from the current SMC, the close behind the tail, the merge at the commit, and the course of
each queue through a step. -/
theorem cuesJoinInOrder : Obligations.CuesJoinInOrder := by
  unfold Obligations.CuesJoinInOrder
  intro near live
  refine ⟨fun s k b tail => ?tail, fun s k => ?close, fun s k rising nearQueue nearPrepared c member => ?commit,
    fun s k c ahead => ?send, fun c s t k next => ?step⟩
  case tail =>
    intro v hold last pos short nearTail anchor start delay lead margin
    have previous : v.previous = some (tail.present, tail.reading) := ServiceState.previous_of_tail last
    have holds : v.holdFor tail.reading + v.par.gap = hold := rfl
    obtain ⟨-, high, behind⟩ := timeCue_present s.ref v b (fun x is => by
      cases previous.symm.trans is
      exact ⟨nearTail, by rw [holds]; exact short⟩) anchor start delay lead margin
    have later := behind _ previous
    have nearTail : -(2 ^ 29) ≤ gapFrom s.ref.smc tail.present ∧ gapFrom s.ref.smc tail.present ≤ 2 ^ 29 := nearTail
    simp only [holds] at later
    rw [toInt_sub_eq s.ref.smc _ _ (by omega) (by omega)]
    omega
  case close =>
    intro v queued anchor start floor floorHigh gap delay lead margin
    have nearQueue : ∀ c ∈ v.queue, -(2 ^ 29) ≤ gapFrom s.ref.smc c.present ∧ gapFrom s.ref.smc c.present ≤ 2 ^ 29 :=
      fun c member => (queued c member).1
    have holdFor (d : Nat) (short : d ≤ 2 ^ 19) : v.holdFor d ≤ 2 ^ 19 := by
      rw [ServiceState.holdFor]
      split
      · exact short
      · exact floorHigh
    have closes : ((s.closeCue k).service k).queue = v.queue ∨ ∃ o kept, v.openCue = some o ∧ kept.Sublist v.queue ∧
        ((s.closeCue k).service k).queue = kept ++ [(timeCue s.ref v o.body s.ref.smc).record] := s.closeCue_queue k
    refine ⟨fun rising => ?_, fun early nearPrevious nearShown behind r display c member => ?_⟩
    · rcases closes with same | ⟨o, kept, opened, sub, joined⟩
      · rw [ServiceState.rising, same]
        exact rising
      · rw [ServiceState.rising, joined]
        refine rising_concat rising sub nearQueue fun tail last => ?_
        have previous : v.previous = some (tail.present, tail.reading) := ServiceState.previous_of_tail last
        obtain ⟨nearTail, one, short⟩ := queued tail (List.mem_of_getLast? last)
        have pos : 1 ≤ v.holdFor tail.reading := by
          rw [ServiceState.holdFor]
          split
          · exact one
          · exact floor
        have hold := holdFor tail.reading short
        obtain ⟨-, high, later⟩ := timeCue_present s.ref v o.body (fun x is => by
          cases previous.symm.trans is
          exact ⟨nearTail, by simp only; omega⟩) (anchor o opened) start delay lead margin
        have later := later _ previous
        simp only at later
        constructor
        · omega
        · omega
    · obtain ⟨r', held, still⟩ := s.closeCue_shown k r display
      have known : c ∈ v.queue → 0 < (c.present - r.shown).toInt := fun queued => still ▸ behind r' held c queued
      rcases closes with same | ⟨o, kept, opened, sub, joined⟩
      · exact known (same ▸ member)
      · rcases List.mem_append.mp (joined ▸ member) with old | new
        · exact known (sub.subset old)
        · rw [List.mem_singleton.mp new]
          obtain ⟨low, high, -⟩ := timeCue_present s.ref v o.body (fun x is => by
            obtain ⟨near, short⟩ := nearPrevious x is
            have := holdFor x.2 short
            exact ⟨near, by omega⟩) (anchor o opened) start delay lead margin
          obtain ⟨⟨lowShown, -⟩, past⟩ := nearShown r' held
          rw [still] at lowShown past
          have lowShown : -(2 ^ 29) ≤ gapFrom s.ref.smc r.shown := lowShown
          have shownGap : (s.ref.smc - r.shown).toInt = 0 - gapFrom s.ref.smc r.shown := by
            rw [← gapFrom_self s.ref.smc]
            have bound : gapFrom s.ref.smc r.shown < 2 ^ 31 := BitVec.toInt_lt
            exact toInt_sub_eq _ _ _ (by rw [gapFrom_self]; omega) (by rw [gapFrom_self]; omega)
          rw [toInt_sub_eq s.ref.smc _ _ (by omega) (by omega)]
          omega
  case commit =>
    have step := s.ref.rate.step_le s.ref.phase
    have boundary : gapFrom s.ref.smc s.ref.nextBoundary = s.ref.rate.step s.ref.phase := by
      rw [RefUnit.nextBoundary, gapFrom_plus _ _ _ (by rw [gapFrom_self]; omega) (by rw [gapFrom_self]; omega),
        gapFrom_self, zero_add]
    have shift (x : Sys2Proof.Smc) (isNear : near s x) : gapFrom s.ref.nextBoundary x =
        gapFrom s.ref.smc x - s.ref.rate.step s.ref.phase := by
      obtain ⟨low, high⟩ : -(2 ^ 29) ≤ gapFrom s.ref.smc x ∧ gapFrom s.ref.smc x ≤ 2 ^ 29 := isNear
      rw [← boundary]
      exact toInt_sub_eq _ _ _ (by omega) (by omega)
    have compare (x y : Sys2Proof.Smc) (nearX : near s x) (nearY : near s y) :
        (y - x).toInt = gapFrom s.ref.nextBoundary y - gapFrom s.ref.nextBoundary x := by
      have shiftX := shift x nearX
      have shiftY := shift y nearY
      obtain ⟨lowX, highX⟩ : -(2 ^ 29) ≤ gapFrom s.ref.smc x ∧ gapFrom s.ref.smc x ≤ 2 ^ 29 := nearX
      obtain ⟨lowY, highY⟩ : -(2 ^ 29) ≤ gapFrom s.ref.smc y ∧ gapFrom s.ref.smc y ≤ 2 ^ 29 := nearY
      exact toInt_sub_eq _ _ _ (by omega) (by omega)
    rw [State.commitStep_queue] at member
    have waits : 0 < gapFrom s.ref.nextBoundary c.present :=
      drop_dues s.isDue_iff (s.service k).queue (s.preparedPart k)
        (List.Pairwise.imp_of_mem (fun {a b} queuedA queuedB later => by
          rw [compare _ _ (nearQueue a queuedA) (nearQueue b queuedB)] at later
          omega) rising)
        (fun l queued p prepared => by
          rw [not_later_iff, compare _ _ (nearQueue l queued) (nearPrepared p prepared)]
          omega) c member
    have := shift c.present (nearQueue c (List.drop_subset _ _ member))
    refine ⟨waits, ?_⟩
    change 0 < gapFrom s.ref.smc c.present
    omega
  case send =>
    obtain ⟨queue, shown⟩ := s.sendShow_reads k c
    refine ⟨fun r display x member => ?_, queue⟩
    rw [shown r display]
    exact ahead x (queue ▸ member)
  case step =>
    intro record
    obtain ⟨course, shown⟩ := (exec_course next).queue k
    exact ⟨course, course.rising, shown⟩
end

section
set_option Elab.async false
/-! SUPPORT. What a boundary sends: each piece of its work pays for its messages with the frame budget. -/

namespace Sys2Proof.Machine

variable {s t : State} {x y z : Sending} {c : Instr}

/-! ### The cost of a message -/

theorem intercalate_space_length (l : List Text) : (([0x20#8] : Text).intercalate l).length =
    (l.map List.length).sum + (l.length - 1) := by
  induction l with
  | nil => rfl
  | cons a l ih =>
    cases l with
    | nil => simp
    | cons b l =>
      rw [List.intercalate_cons_cons, List.length_append, List.length_append, ih]
      simp only [List.length_cons, List.length_nil, List.map_cons, List.sum_cons]
      omega

theorem rowText_length (ws : List PlacedWord) : (rowText ws).length = rowLength ws := by
  rw [rowText, intercalate_space_length, rowLength, List.map_map, List.length_map]
  rfl

/-- A SHOW costs what step 4 counts for its cue. -/
theorem Committed.message_cost (d : Committed) (k : Service) : (d.message k).cost = d.source.cost := by
  rcases d with ⟨x | x, band, changed, conflict⟩
  · by_cases single : x.body.row2 = []
    · simp [Committed.message, OutputMsg.cost, CommittedSource.cost, CommittedSource.count, CueBody.count, rowText_length,
        single, rowLength]
    · simp [Committed.message, OutputMsg.cost, CommittedSource.cost, CommittedSource.count, CueBody.count, rowText_length,
        single, Nat.add_assoc]
  · simp [Committed.message, OutputMsg.cost, CommittedSource.cost, CommittedSource.count, Nat.add_assoc]

/-! ### What pieces of the work pay -/

/-- The messages sent between two states of the work are paid from the frame budget; while the inserter is BUSY there are
none. -/
structure Paid (x y : Sending) : Prop where
  budget : y.state.budget = x.state.budget
  inserter : y.state.inserter = x.state.inserter
  sends : ∃ ms, y.state.sent.output = x.state.sent.output ++ ms ∧ (ms.map OutputMsg.cost).sum + y.budget ≤ x.budget ∧
    (x.state.inserter = .busy → ms = [])

theorem Paid.trans (first : Paid x y) (last : Paid y z) : Paid x z where
  budget := last.budget.trans first.budget
  inserter := last.inserter.trans first.inserter
  sends := by
    obtain ⟨ms, output, cost, busy⟩ := first.sends
    obtain ⟨ns, output', cost', busy'⟩ := last.sends
    refine ⟨ms ++ ns, by rw [output', output, List.append_assoc], ?_, fun waits => ?_⟩
    · rw [List.map_append, List.sum_append]
      omega
    · rw [busy waits, busy' (first.inserter.trans waits), List.append_nil]

/-- A piece that sends nothing and leaves the budget. -/
theorem Paid.still {F : List Field} (same : SameBut F x.state y.state) (output : y.state.sent.output = x.state.sent.output)
    (left : y.budget = x.budget) (hF : .budget ∉ F ∧ .inserter ∉ F := by simp) : Paid x y where
  budget := same .budget hF.1
  inserter := same .inserter hF.2
  sends := ⟨[], by rw [output, List.append_nil], by simp [left], fun _ => rfl⟩

theorem Paid.refl (x : Sending) : Paid x x := .still (SameBut.refl [] _) rfl rfl

/-- One message is sent and paid. -/
theorem Paid.send {F : List Field} {m : OutputMsg} (ready : x.state.inserter = .ready) (same : SameBut F x.state y.state)
    (output : y.state.sent.output = x.state.sent.output ++ [m]) (left : m.cost + y.budget ≤ x.budget)
    (hF : .budget ∉ F ∧ .inserter ∉ F := by simp) : Paid x y where
  budget := same .budget hF.1
  inserter := same .inserter hF.2
  sends := ⟨[m], output, by simpa using left, fun waits => by cases ready.symm.trans waits⟩

theorem Paid.foldl {f : Sending → Service → Sending} (ready : x.state.inserter = .ready)
    (pays : ∀ y k, y.state.inserter = .ready → Paid y (f y k)) (l : List Service) : Paid x (l.foldl f x) := by
  induction l generalizing x with
  | nil => exact .refl x
  | cons k l ih =>
    have first := pays x k ready
    exact first.trans (ih (first.inserter.trans ready))

/-! ### Step 3 -/

theorem State.sendControl_output {k : Service} (pending : (s.service k).control ≠ .none) :
    ∃ m : OutputMsg, (s.sendControl k).sent.output = s.sent.output ++ [m] ∧ m.cost = controlCost := by
  cases control : (s.service k).control with
  | none => exact absurd control pending
  | clear =>
    rw [State.sendControl_of_clear control]
    exact ⟨.clear k, rfl, rfl⟩
  | move b =>
    refine ⟨.move k b, ?_, rfl⟩
    simp only [State.sendControl, control, State.raise_sent]
    rfl

/-- Step 3 leaves the rest of the services what their controls cost. -/
theorem Paid.control {k : Service} (ready : x.state.inserter = .ready) (enough : controlCost ≤ x.budget) :
    Paid x (x.control k) ∧ x.budget ≤ (x.control k).budget + controlCost := by
  by_cases sends : ((x.state.service k).committed.isNone && (x.state.service k).control != .none) = true
  · have step : x.control k = ⟨x.state.sendControl k, x.budget - controlCost⟩ := if_pos sends
    have pending : (x.state.service k).control ≠ .none := by simpa using (Bool.and_eq_true_iff.mp sends).2
    obtain ⟨m, output, cost⟩ := State.sendControl_output pending
    rw [step]
    exact ⟨.send ready (sendControl_frame _ _) output (by simp only [cost]; omega), by
      simp only; omega⟩
  · have step : x.control k = x := if_neg sends
    rw [step]
    exact ⟨.refl x, Nat.le_add_right _ _⟩

theorem Paid.controlsOf (ready : x.state.inserter = .ready) (l : List Service) (enough : controlCost * l.length ≤ x.budget) :
    Paid x (l.foldl Sending.control x) := by
  induction l generalizing x with
  | nil => exact .refl x
  | cons k l ih =>
    rw [List.length_cons, Nat.mul_add, Nat.mul_one] at enough
    obtain ⟨first, left⟩ := Paid.control (k := k) ready (by omega)
    exact first.trans (ih (first.inserter.trans ready) (by omega))

/-- Step 3 begins with the whole frame budget, and the four controls fit it. -/
theorem Paid.controls (enough : 96 ≤ x.state.budget) (left : x.budget ≤ x.state.budget) :
    Paid ⟨x.state, x.state.budget⟩ x.controls := by
  unfold Sending.controls
  split
  next ready =>
    have four : x.state.enabledServices.length ≤ 4 := List.length_filter_le _ allServices
    exact .controlsOf (x := ⟨x.state, x.state.budget⟩) ready x.state.enabledServices (by simp only [controlCost]; omega)
  next =>
    exact ⟨rfl, rfl, [], by simp, by simpa using left, fun _ => rfl⟩

/-! ### Step 4 -/

theorem State.coverCheck_output (s : State) (k : Service) : (s.coverCheck k).sent = s.sent :=
  coverCheck_frame s k .sent (by simp)

theorem State.sendShow_output (s : State) (k : Service) (d : Committed) :
    (s.sendShow k d).sent.output = s.sent.output ++ [d.message k] := by
  have lateness (u : State) : (u.accountLateness k d).sent = u.sent := accountLateness_frame u k d .sent (by simp)
  unfold State.sendShow
  dsimp only
  split
  · rw [State.coverCheck_output, lateness]
    rfl
  · rw [lateness]
    rfl

theorem Paid.setDeficit {k : Service} {n : Nat} : Paid x ⟨x.state.setDeficit k n, x.budget⟩ :=
  .still (setDeficit_frame x.state k n) rfl rfl

theorem Paid.sendShow {k : Service} {d : Committed} {left : Nat} (ready : s.inserter = .ready)
    (fits : d.source.cost ≤ left) : Paid ⟨s, left⟩ ⟨s.sendShow k d, left - d.source.cost⟩ :=
  .send ready (sendShow_frame s k d) (s.sendShow_output k d) (by simp only [d.message_cost k]; omega)

theorem Paid.strict (x : Sending) (k : Service) (ready : x.state.inserter = .ready) : Paid x (x.strict k) := by
  cases waits : (x.state.service k).committed with
  | none =>
    have step : x.strict k = x := by simp only [Sending.strict, waits]
    rw [step]
    exact .refl x
  | some d =>
    rw [Sending.strict_of_some (s := x.state) (left := x.budget) waits]
    split
    next fits => exact .sendShow ready fits
    next => exact .refl x

theorem Paid.wrr (x : Sending) (k : Service) (ready : x.state.inserter = .ready) : Paid x (x.wrr k) := by
  cases waits : (x.state.service k).committed with
  | none =>
    have step : x.wrr k = ⟨x.state.setDeficit k 0, x.budget⟩ := by simp only [Sending.wrr, waits]
    rw [step]
    exact .setDeficit
  | some d =>
    rw [Sending.wrr_of_some (s := x.state) (left := x.budget) waits rfl]
    split
    next fits =>
      refine (Paid.setDeficit.trans (.sendShow ready fits.2)).trans (.still (F := [.roundRobin]) (fun f hf => ?_) rfl rfl)
      cases f <;> first | rfl | (exfalso; simp at hf)
    next => exact .setDeficit

theorem Paid.captions (x : Sending) : Paid x x.captions := by
  unfold Sending.captions
  split
  · exact .refl x
  next ready _ => exact .foldl ready Paid.strict _
  next ready _ => exact .foldl ready Paid.wrr _

/-! ### The things of a boundary, in their order -/

/-- Step 3 does not follow step 3 or step 4. -/
def BoundaryStep.before (y z : BoundaryStep) : Prop := y = .controls ∨ y = .captions → z ≠ .controls

theorem BoundaryStep.task_before (t : BoundaryTask) (z : BoundaryStep) : (BoundaryStep.task t).before z := fun no => by
  rcases no with no | no <;> cases no

theorem BoundaryStep.before_task (y : BoundaryStep) (t : BoundaryTask) : y.before (.task t) := fun _ no => by cases no

theorem mem_interleave {y : BoundaryStep} {l : List BoundaryStep} {ts : List (List BoundaryTask)}
    (h : y ∈ interleave ts l) : y ∈ l ∨ ∃ z, y = .task z := by
  induction ts generalizing l with
  | nil => exact Or.inl h
  | cons g ts ih =>
    have tasks (h : y ∈ g.map BoundaryStep.task) : ∃ z, y = .task z := by
      obtain ⟨z, -, rfl⟩ := List.mem_map.mp h
      exact ⟨z, rfl⟩
    cases l with
    | nil =>
      rcases List.mem_append.mp h with h | h
      · exact Or.inr (tasks h)
      · exact ih h
    | cons w l =>
      rcases List.mem_append.mp h with h | h
      · exact Or.inr (tasks h)
      · rcases List.mem_cons.mp h with rfl | h
        · exact Or.inl List.mem_cons_self
        · exact (ih h).imp_left (List.mem_cons_of_mem w)

theorem pairwise_tasks_append {l : List BoundaryStep} (ordered : l.Pairwise BoundaryStep.before) (g : List BoundaryTask) :
    (g.map BoundaryStep.task ++ l).Pairwise BoundaryStep.before := by
  induction g with
  | nil => exact ordered
  | cons t g ih => exact List.pairwise_cons.mpr ⟨fun z _ => BoundaryStep.task_before t z, ih⟩

theorem pairwise_interleave {l : List BoundaryStep} (ordered : l.Pairwise BoundaryStep.before)
    (ts : List (List BoundaryTask)) : (interleave ts l).Pairwise BoundaryStep.before := by
  induction ts generalizing l with
  | nil => exact ordered
  | cons g ts ih =>
    cases l with
    | nil => exact pairwise_tasks_append (ih .nil) g
    | cons w l =>
      obtain ⟨first, rest⟩ := List.pairwise_cons.mp ordered
      refine pairwise_tasks_append (List.pairwise_cons.mpr ⟨fun z hz => ?_, ih rest⟩) g
      rcases mem_interleave hz with hz | ⟨t, rfl⟩
      · exact first z hz
      · exact w.before_task t

theorem State.schedulerSteps_pairwise (s : State) : s.schedulerSteps.Pairwise BoundaryStep.before := by
  unfold State.schedulerSteps
  split
  · refine List.pairwise_append.mpr ⟨List.pairwise_cons.mpr ⟨fun z _ no => ?_, List.pairwise_map.mpr ?_⟩, ?_,
      fun y hy z _ sends => ?_⟩
    · rcases no with no | no <;> cases no
    · exact List.pairwise_iff_forall_sublist.mpr fun _ no => by rcases no with no | no <;> cases no
    · simp [BoundaryStep.before]
    · rcases List.mem_cons.mp hy with rfl | hy
      · rcases sends with no | no <;> cases no
      · obtain ⟨k, -, rfl⟩ := List.mem_map.mp hy
        rcases sends with no | no <;> cases no
  · exact .nil

theorem State.boundarySteps_pairwise (s : State) (o : BoundaryOrder) :
    (s.boundarySteps o).Pairwise BoundaryStep.before := by
  refine List.pairwise_append.mpr ⟨pairwise_interleave s.schedulerSteps_pairwise _,
    List.pairwise_map.mpr (List.pairwise_iff_forall_sublist.mpr fun _ => BoundaryStep.task_before _ _), fun y _ z hz => ?_⟩
  obtain ⟨t, -, rfl⟩ := List.mem_map.mp hz
  exact y.before_task t

/-! ### The work of a boundary -/

theorem State.runTask_output (s : State) (t : BoundaryTask) : (s.runTask t).sent.output = s.sent.output :=
  Changes.output (a := { Allow.boundary s with sends := False }) id (Changes.runTask .refl trivial trivial s.owned_work t)

/-- Step 3 is not behind what has been sent. -/
def Sending.Ahead (s : State) (rest : List BoundaryStep) (x : Sending) : Prop :=
  Paid ⟨s, s.budget⟩ x ∧ rest.Pairwise BoundaryStep.before ∧
    (x.state.sent.output = s.sent.output ∨ .controls ∉ rest)

/-- Every piece but step 3 pays from what is left. -/
theorem Paid.runStep (x : Sending) {y : BoundaryStep} (other : y ≠ .controls) : Paid x (x.runStep y) := by
  cases y with
  | task t => exact .still (runTask_frame x.state t) (x.state.runTask_output t) rfl
  | deadlines =>
    have same := deadlineStep_frame x.state
    exact .still same (congrArg Sent.output (same .sent (by simp))) rfl
  | commit k =>
    have same := commitStep_frame x.state k
    exact .still same (congrArg Sent.output (same .sent (by simp))) rfl
  | controls => exact absurd rfl other
  | captions => exact .captions x
  | account =>
    have same := account_frame x.state
    exact .still same (congrArg Sent.output (same .sent (by simp))) rfl

theorem Sending.Ahead.step {y : BoundaryStep} {rest : List BoundaryStep} (enough : 96 ≤ s.budget)
    (h : x.Ahead s (y :: rest)) : (x.runStep y).Ahead s rest := by
  obtain ⟨paid, ordered, early⟩ := h
  obtain ⟨first, rest_ordered⟩ := List.pairwise_cons.mp ordered
  by_cases third : y = .controls
  · subst third
    have unsent : x.state.sent.output = s.sent.output := early.resolve_right fun no => no List.mem_cons_self
    obtain ⟨ms, -, cost, -⟩ := paid.sends
    have budget : x.state.budget = s.budget := paid.budget
    have left : x.budget ≤ s.budget := Nat.le_trans (Nat.le_add_left _ _) cost
    have fresh : Paid ⟨s, s.budget⟩ ⟨x.state, x.state.budget⟩ :=
      ⟨budget, paid.inserter, [], by simpa using unsent, by simp [budget], fun _ => rfl⟩
    exact ⟨fresh.trans (.controls (budget ▸ enough) (budget ▸ left)), rest_ordered,
      Or.inr fun again => first _ again (Or.inl rfl) rfl⟩
  · refine ⟨paid.trans (.runStep x third), rest_ordered, ?_⟩
    by_cases fourth : y = .captions
    · exact Or.inr fun again => first _ again (Or.inr fourth) rfl
    · rcases early with unsent | gone
      · refine Or.inl (Eq.trans ?_ unsent)
        cases y with
        | task t => exact x.state.runTask_output t
        | deadlines => exact congrArg Sent.output (deadlineStep_frame x.state .sent (by simp))
        | commit k => exact congrArg Sent.output (commitStep_frame x.state k .sent (by simp))
        | controls => exact absurd rfl third
        | captions => exact absurd rfl fourth
        | account => exact congrArg Sent.output (account_frame x.state .sent (by simp))
      · exact Or.inr fun again => gone (List.mem_cons_of_mem y again)

theorem Sending.Ahead.steps {l rest : List BoundaryStep} (enough : 96 ≤ s.budget) (h : x.Ahead s (l ++ rest)) :
    (l.foldl Sending.runStep x).Ahead s rest := by
  induction l generalizing x with
  | nil => exact h
  | cons y l ih => exact ih (h.step enough)

theorem Sending.Ahead.sampleLevels {rest : List BoundaryStep} (h : x.Ahead s rest) :
    Sending.Ahead s rest ⟨x.state.sampleLevels, x.budget⟩ := by
  obtain ⟨paid, ordered, early⟩ := h
  have same := sampleLevels_frame x.state
  have output : x.state.sampleLevels.sent.output = x.state.sent.output := congrArg Sent.output (same .sent (by simp))
  exact ⟨paid.trans (.still same output rfl), ordered, early.imp_left output.trans⟩

/-- What a command sends fits the frame budget, and is nothing while the inserter is BUSY. -/
def State.Fits (s t : State) : Prop :=
  ∃ ms, t.sent.output = s.sent.output ++ ms ∧ (ms.map OutputMsg.cost).sum ≤ s.budget ∧ (s.inserter = .busy → ms = [])

theorem State.Fits.silent (h : t.sent.output = s.sent.output) : s.Fits t :=
  ⟨[], by rw [h, List.append_nil], Nat.zero_le _, fun _ => rfl⟩

theorem State.Fits.frameBoundary {F : List Field} (enough : 96 ≤ s.budget) (same : SameBut F s t) (m : Moment)
    (o : BoundaryOrder) (hF : .budget ∉ F ∧ .inserter ∉ F ∧ .sent ∉ F := by simp) : s.Fits (t.frameBoundary m o) := by
  have silent : t.finishBoundary.sent.output = t.sent.output :=
    Changes.output (a := Allow.work t) id (Changes.finishBoundary .refl trivial trivial t.owned_work)
  have finished := finishBoundary_frame t
  have advanced := advanceBoundary_frame t.finishBoundary m
  have budget : (t.finishBoundary.advanceBoundary m).budget = s.budget :=
    (advanced .budget (by simp)).trans ((finished .budget (by simp)).trans (same .budget hF.1))
  have inserter : (t.finishBoundary.advanceBoundary m).inserter = s.inserter :=
    (advanced .inserter (by simp)).trans ((finished .inserter (by simp)).trans (same .inserter hF.2.1))
  have output : (t.finishBoundary.advanceBoundary m).sent.output = s.sent.output :=
    (congrArg Sent.output (advanced .sent (by simp))).trans (silent.trans (congrArg Sent.output (same .sent hF.2.2)))
  unfold State.frameBoundary
  generalize hu : t.finishBoundary.advanceBoundary m = u at budget inserter output
  have start : Sending.Ahead s ((u.boundarySteps o).take o.sample ++ (u.boundarySteps o).drop o.sample) ⟨u, u.budget⟩ :=
    ⟨⟨budget, inserter, [], by simpa using output, by simp [budget], fun _ => rfl⟩,
      by rw [List.take_append_drop]; exact u.boundarySteps_pairwise o, Or.inl output⟩
  have first := start.steps enough
  have last := Sending.Ahead.steps (l := (u.boundarySteps o).drop o.sample) (rest := []) enough
    (by rw [List.append_nil]; exact first.sampleLevels)
  obtain ⟨ms, sent, cost, busy⟩ := last.1.sends
  exact ⟨ms, sent, Nat.le_trans (Nat.le_add_right _ _) cost, busy⟩

/-! ### The commands -/

theorem State.Fits.pulse (enough : 96 ≤ s.budget) (m : Moment) (o : BoundaryOrder) : s.Fits (s.pulse m o) := by
  have unit (u : RefUnit) : SameBut [.ref, .alerts, .counters] s { s with ref := u } := by
    intro f hf
    cases f <;> first | rfl | (exfalso; simp at hf)
  have unlocked (origin : RefOrigin) : s.Fits (s.unlockedPulse origin m) := by
    refine .silent ?_
    unfold State.unlockedPulse
    dsimp only
    split <;> rfl
  have boundary (u : State) (swallowed : Bool) (same : SameBut [.ref, .alerts, .counters] s u) :
      s.Fits (u.lockedBoundary swallowed m o) := by
    unfold State.lockedBoundary
    split
    · exact .silent (congrArg Sent.output (same .sent (by simp)))
    · exact .frameBoundary enough same m o
  unfold State.pulse
  split
  · exact unlocked .free
  · exact unlocked .holdover
  · unfold State.qualifyingPulse
    dsimp only
    split
    · exact .silent rfl
    · split
      · exact boundary _ _ (SameBut.trans (unit _) ((setAlert_frame _ _ _).mono (by simp)))
      · exact .silent rfl
  · rw [State.lockedPulse_eq]
    split
    · exact .silent rfl
    · exact .frameBoundary enough (unit _) m o

theorem State.Fits.loseReference (enough : 96 ≤ s.budget) (o : BoundaryOrder) : s.Fits (s.loseReference o) := by
  unfold State.loseReference
  split
  · refine .frameBoundary (F := [.ref, .alerts, .counters]) enough ?_ _ o
    rw [SameBut.drop (raise_frame _ _) (by simp), SameBut.drop (setAlert_frame _ _ _) (by simp)]
    intro f hf
    cases f <;> first | rfl | (exfalso; simp at hf)
  · exact .silent rfl

theorem State.Fits.flywheelTick (enough : 96 ≤ s.budget) (o : BoundaryOrder) : s.Fits (s.flywheelTick o) := by
  unfold State.flywheelTick
  split
  · exact .silent rfl
  · refine .frameBoundary (F := [.ref]) enough (fun f hf => ?_) _ o
    cases f <;> first | rfl | (exfalso; simp at hf)

theorem Course.fits (h : Course c s t) (unmade : ¬ makesBoundary c) (other : c ≠ .stop) : s.Fits t := by
  cases h with
  | work h => exact .silent (h.output id)
  | boundary m made => exact absurd made unmade
  | reset => exact .silent rfl
  | start _ _ before => exact .silent (before.output id)
  | stop _ no => exact absurd no other

end Sys2Proof.Machine

open Sys2Proof.Machine

/-- Settles O46: of the boundary's work only steps 3 and 4 send, each message paid from what is left of the budget, and step 3,
which begins with the whole of it, comes once and first. -/
theorem outputWithinBudget : Obligations.OutputWithinBudget := by
  intro c s t enough other next
  show s.Fits t
  by_cases made : makesBoundary c
  · rcases made with ⟨m, o, rfl⟩ | ⟨o, rfl⟩ | ⟨o, rfl⟩ <;> cases next
    · exact .pulse enough m o
    · exact .loseReference enough o
    · exact .flywheelTick enough o
  · exact (exec_course next).fits made other

end

section
set_option Elab.async false
/-! SUPPORT. States that differ in counters and alerts alone: what is read of them is the same, and each operation of the timing
engine, the cue assembler, the relay controller and the contributor links takes them to such states again. -/

namespace Sys2Proof.Machine

variable {s t u : State}

/-! ### States that differ in what watches them -/

/-- The states differ in counters and alerts alone. -/
def State.Alike (s t : State) : Prop := ∃ a b, t = s.withWatchers a b

namespace State.Alike

theorem refl (s : State) : s.Alike s := ⟨s.counters, s.alerts, rfl⟩

theorem symm (h : s.Alike t) : t.Alike s := by
  obtain ⟨a, b, rfl⟩ := h
  exact ⟨s.counters, s.alerts, rfl⟩

theorem trans (first : s.Alike t) (last : t.Alike u) : s.Alike u := by
  obtain ⟨a, b, rfl⟩ := first
  obtain ⟨c, d, rfl⟩ := last
  exact ⟨c, d, rfl⟩

theorem of_sameBut (h : SameBut [.counters, .alerts] s t) : s.Alike t := ⟨t.counters, t.alerts, h.withWatchers⟩

/-- What changes counters and alerts alone leaves alike states alike. -/
theorem watched (h : s.Alike t) {s' t' : State} (first : SameBut [.counters, .alerts] s s')
    (last : SameBut [.counters, .alerts] t t') : s'.Alike t' :=
  (of_sameBut first).symm.trans (h.trans (of_sameBut last))

theorem foldl {α : Type} {f : State → α → State} (h : s.Alike t) (pass : ∀ s t x, s.Alike t → (f s x).Alike (f t x))
    (l : List α) : (l.foldl f s).Alike (l.foldl f t) := by
  induction l generalizing s t with
  | nil => exact h
  | cons x l ih => exact ih (pass s t x h)

/-! ### What is read of alike states -/

/-- A reading that does not look at counters and alerts. -/
theorem read {α : Type} (h : s.Alike t) (f : State → α) (blind : ∀ a b, f (s.withWatchers a b) = f s) : f t = f s := by
  obtain ⟨a, b, rfl⟩ := h
  exact blind a b

theorem mode (h : s.Alike t) : t.mode = s.mode := h.read State.mode fun _ _ => rfl
theorem ref (h : s.Alike t) : t.ref = s.ref := h.read State.ref fun _ _ => rfl
theorem ports (h : s.Alike t) : t.ports = s.ports := h.read State.ports fun _ _ => rfl
theorem groups (h : s.Alike t) : t.groups = s.groups := h.read State.groups fun _ _ => rfl
theorem services (h : s.Alike t) : t.services = s.services := h.read State.services fun _ _ => rfl
theorem events (h : s.Alike t) : t.events = s.events := h.read State.events fun _ _ => rfl
theorem packages (h : s.Alike t) : t.packages = s.packages := h.read State.packages fun _ _ => rfl
theorem layout (h : s.Alike t) : t.layout = s.layout := h.read State.layout fun _ _ => rfl
theorem budget (h : s.Alike t) : t.budget = s.budget := h.read State.budget fun _ _ => rfl
theorem inserter (h : s.Alike t) : t.inserter = s.inserter := h.read State.inserter fun _ _ => rfl
theorem schedMode (h : s.Alike t) : t.schedMode = s.schedMode := h.read State.schedMode fun _ _ => rfl
theorem roundRobin (h : s.Alike t) : t.roundRobin = s.roundRobin := h.read State.roundRobin fun _ _ => rfl
theorem busyCount (h : s.Alike t) : t.busyCount = s.busyCount := h.read State.busyCount fun _ _ => rfl
theorem poolRegion (h : s.Alike t) : t.poolRegion = s.poolRegion := h.read State.poolRegion fun _ _ => rfl
theorem silenceTimeout (h : s.Alike t) : t.silenceTimeout = s.silenceTimeout := h.read State.silenceTimeout fun _ _ => rfl
theorem sup (h : s.Alike t) : t.sup = s.sup := h.read State.sup fun _ _ => rfl
theorem sent (h : s.Alike t) : t.sent = s.sent := h.read State.sent fun _ _ => rfl
theorem freeIndex (h : s.Alike t) : t.freeIndex = s.freeIndex := h.read State.freeIndex fun _ _ => rfl
theorem pending (h : s.Alike t) : t.pending = s.pending := h.read State.pending fun _ _ => rfl

theorem now (h : s.Alike t) : t.now = s.now := h.read State.now fun _ _ => rfl
theorem running (h : s.Alike t) : t.running = s.running := h.read State.running fun _ _ => rfl
theorem port (h : s.Alike t) (p : Port) : t.port p = s.port p := h.read (State.port · p) fun _ _ => rfl
theorem group (h : s.Alike t) (g : Group) : t.group g = s.group g := h.read (State.group · g) fun _ _ => rfl
theorem service (h : s.Alike t) (k : Service) : t.service k = s.service k := h.read (State.service · k) fun _ _ => rfl
theorem intakeCapacity (h : s.Alike t) (p : Port) : t.intakeCapacity p = s.intakeCapacity p :=
  h.read (State.intakeCapacity · p) fun _ _ => rfl
theorem queueCapacity (h : s.Alike t) (k : Service) : t.queueCapacity k = s.queueCapacity k :=
  h.read (State.queueCapacity · k) fun _ _ => rfl
theorem poolCapacity (h : s.Alike t) : t.poolCapacity = s.poolCapacity := h.read State.poolCapacity fun _ _ => rfl
theorem findPackage (h : s.Alike t) (id : PackageId) : t.findPackage id = s.findPackage id :=
  h.read (State.findPackage · id) fun _ _ => rfl
theorem plays (h : s.Alike t) (k : Service) (id : PackageId) : t.plays k id = s.plays k id :=
  h.read (State.plays · k id) fun _ _ => rfl
theorem timeOpen (h : s.Alike t) (k : Service) : t.timeOpen k = s.timeOpen k := h.read (State.timeOpen · k) fun _ _ => rfl
theorem closeCuts (h : s.Alike t) (k : Service) : t.closeCuts k = s.closeCuts k := h.read (State.closeCuts · k) fun _ _ => rfl
theorem takeResult (h : s.Alike t) (p : Port) : t.takeResult p = s.takeResult p :=
  h.read (State.takeResult · p) fun _ _ => rfl
theorem cutTick (h : s.Alike t) (p : Port) (c : Smc) : t.cutTick p c = s.cutTick p c :=
  h.read (State.cutTick · p c) fun _ _ => rfl
theorem readyMember (h : s.Alike t) (g : Group) : t.readyMember g = s.readyMember g :=
  h.read (State.readyMember · g) fun _ _ => rfl
theorem routed (h : s.Alike t) (g : Group) : t.routed g = s.routed g := h.read (State.routed · g) fun _ _ => rfl
theorem speechFor (h : s.Alike t) (p : Port) (w : WordRecord) : t.speechFor p w = s.speechFor p w :=
  h.read (State.speechFor · p w) fun _ _ => rfl
theorem yieldExpired (h : s.Alike t) (g : Group) : t.yieldExpired g = s.yieldExpired g :=
  h.read (State.yieldExpired · g) fun _ _ => rfl
theorem receives (h : s.Alike t) (p : Port) : t.receives p = s.receives p := h.read (State.receives · p) fun _ _ => rfl
theorem silenceExpired (h : s.Alike t) (p : Port) : t.silenceExpired p = s.silenceExpired p :=
  h.read (State.silenceExpired · p) fun _ _ => rfl
theorem refreshExpired (h : s.Alike t) (p : Port) : t.refreshExpired p = s.refreshExpired p :=
  h.read (State.refreshExpired · p) fun _ _ => rfl
theorem nextRecord (h : s.Alike t) (p : Port) : t.nextRecord p = s.nextRecord p :=
  h.read (State.nextRecord · p) fun _ _ => rfl

/-! ### Occurrences, alerts and samples -/

theorem raise (h : s.Alike t) (o o' : Occurrence) : (s.raise o).Alike (t.raise o') :=
  h.watched (raise_frame s o) (raise_frame t o')

theorem raiseIf (h : s.Alike t) (b b' : Bool) (o o' : Occurrence) : (s.raiseIf b o).Alike (t.raiseIf b' o') :=
  h.watched (raiseIf_frame s b o) (raiseIf_frame t b' o')

theorem raiseTimes (h : s.Alike t) (o o' : Occurrence) (n n' : Nat) : (s.raiseTimes o n).Alike (t.raiseTimes o' n') :=
  h.watched (raiseTimes_frame s o n) (raiseTimes_frame t o' n')

theorem setAlert (h : s.Alike t) (a : Alert) (o : Option (Fin 8)) : (s.setAlert a o).Alike (t.setAlert a o) :=
  h.watched ((setAlert_frame s a o).mono (by simp)) ((setAlert_frame t a o).mono (by simp))

theorem sampleLevels (h : s.Alike t) : s.sampleLevels.Alike t.sampleLevels :=
  h.watched (sampleLevels_frame s) (sampleLevels_frame t)

/-! ### The named operations -/

/-- An update that does not look at counters and alerts. -/
theorem update (h : s.Alike t) (f : State → State) (blind : ∀ a b, f (s.withWatchers a b) = (f s).withWatchers a b) :
    (f s).Alike (f t) := by
  obtain ⟨a, b, rfl⟩ := h
  exact ⟨a, b, blind a b⟩

theorem setPort (h : s.Alike t) (p : Port) (x : PortState) : (s.setPort p x).Alike (t.setPort p x) :=
  h.update (State.setPort · p x) fun _ _ => rfl
theorem setGroup (h : s.Alike t) (g : Group) (x : GroupState) : (s.setGroup g x).Alike (t.setGroup g x) :=
  h.update (State.setGroup · g x) fun _ _ => rfl
theorem setService (h : s.Alike t) (k : Service) (x : ServiceState) : (s.setService k x).Alike (t.setService k x) :=
  h.update (State.setService · k x) fun _ _ => rfl
theorem setPackages (h : s.Alike t) (l : List (Option PackageRecord)) : (s.setPackages l).Alike (t.setPackages l) :=
  h.update (State.setPackages · l) fun _ _ => rfl
theorem sendPort (h : s.Alike t) (p : Port) (m : PortMsg) : (s.sendPort p m).Alike (t.sendPort p m) :=
  h.update (State.sendPort · p m) fun _ _ => rfl
theorem sendAnswer (h : s.Alike t) (a : Answer) : (s.sendAnswer a).Alike (t.sendAnswer a) :=
  h.update (State.sendAnswer · a) fun _ _ => rfl
theorem sendOutput (h : s.Alike t) (m : OutputMsg) : (s.sendOutput m).Alike (t.sendOutput m) :=
  h.update (State.sendOutput · m) fun _ _ => rfl
theorem enterLink (h : s.Alike t) (p : Port) (l : LinkState) : (s.enterLink p l).Alike (t.enterLink p l) :=
  h.update (State.enterLink · p l) fun _ _ => rfl
theorem mapPlacements (h : s.Alike t) (f : Placement → Placement) : (s.mapPlacements f).Alike (t.mapPlacements f) :=
  h.update (State.mapPlacements · f) fun _ _ => rfl
theorem markCue (h : s.Alike t) (k : Service) (id : CueId) (st : PlacementState) :
    (s.markCue k id st).Alike (t.markCue k id st) := h.mapPlacements _
theorem renumberCue (h : s.Alike t) (k : Service) (b c : CueBody) (i : Nat) :
    (s.renumberCue k b c i).Alike (t.renumberCue k b c i) := h.mapPlacements _
theorem joinHistory (h : s.Alike t) (p : Port) (e : HistoryEntry) : (s.joinHistory p e).Alike (t.joinHistory p e) :=
  h.update (State.joinHistory · p e) fun _ _ => rfl
theorem clearHistory (h : s.Alike t) (p : Port) : (s.clearHistory p).Alike (t.clearHistory p) :=
  h.update (State.clearHistory · p) fun _ _ => rfl

/-! ### The close of a cue -/

theorem insertCue (h : s.Alike t) (k : Service) (c : CueRecord) : (s.insertCue k c).Alike (t.insertCue k c) := by
  unfold State.insertCue
  simp only [h.service, h.queueCapacity]
  split
  · exact h.setService ..
  · split
    · exact h.setService ..
    · exact (((h.setService ..).markCue ..).raise ..).setAlert ..

theorem settleTimed (h : s.Alike t) (k : Service) (x : Timed) : (s.settleTimed k x).Alike (t.settleTimed k x) := by
  unfold State.settleTimed
  simp only [h.service]
  split
  · exact (h.markCue ..).raise ..
  · exact (h.setService ..).insertCue ..

theorem closeCue (h : s.Alike t) (k : Service) : (s.closeCue k).Alike (t.closeCue k) := by
  unfold State.closeCue
  simp only [h.service, h.timeOpen]
  split
  · exact h
  · exact ((((h.setService ..).raise ..).raiseIf ..).raiseIf ..).settleTimed ..

theorem closeRouted (h : s.Alike t) (g : Group) : (s.closeRouted g).Alike (t.closeRouted g) := by
  refine h.foldl (fun s t k h => ?_) _
  simp only [h.service]
  split
  · exact h.closeCue k
  · exact h

theorem changeRoute (h : s.Alike t) (k : Service) (g : Option Group) : (s.changeRoute k g).Alike (t.changeRoute k g) := by
  unfold State.changeRoute
  simp only [h.service, (h.closeCue k).service]
  split
  · exact h
  · exact (h.closeCue k).setService ..

/-! ### The cue assembler -/

theorem removePlaced (h : s.Alike t) (pl : Placement) : (s.removePlaced pl).Alike (t.removePlaced pl) := by
  unfold State.removePlaced
  simp only [h.service]
  split
  · exact h
  · exact (h.setService ..).renumberCue ..

theorem withdraw (h : s.Alike t) (e : HistoryEntry) : (s.withdraw e).Alike (t.withdraw e) := by
  refine h.foldl (fun s t pl h => ?_) _
  split
  · exact h.removePlaced pl
  · exact h

theorem retractLoop (h : s.Alike t) (p : Port) (k r : Nat) :
    (State.retractLoop p k r s).state.Alike (State.retractLoop p k r t).state ∧
      (State.retractLoop p k r t).removed = (State.retractLoop p k r s).removed ∧
      (State.retractLoop p k r t).reason = (State.retractLoop p k r s).reason := by
  induction k generalizing s t r with
  | zero => exact ⟨h, rfl, rfl⟩
  | succ k ih =>
    unfold State.retractLoop
    simp only [h.port]
    split
    · exact ⟨h, rfl, rfl⟩
    · split
      · exact ⟨h, rfl, rfl⟩
      · exact ih ((h.setPort ..).withdraw _) (r + 1)

theorem retractWords (h : s.Alike t) (p : Port) (k : Nat) : (s.retractWords p k).Alike (t.retractWords p k) := by
  obtain ⟨alike, removed, reason⟩ := h.retractLoop p k 0
  unfold State.retractWords
  simp only [removed, reason]
  exact (alike.sendPort ..).raiseTimes ..

theorem openBody (h : s.Alike t) (k : Service) (b : Bool) :
    (s.openBody k b).1.Alike (t.openBody k b).1 ∧ (t.openBody k b).2 = (s.openBody k b).2 := by
  unfold State.openBody
  simp only [h.service, and_true]
  exact h.setService ..

theorem openOrNew (h : s.Alike t) (k : Service) (b : Bool) :
    (s.openOrNew k b).1.Alike (t.openOrNew k b).1 ∧ (t.openOrNew k b).2 = (s.openOrNew k b).2 := by
  unfold State.openOrNew
  simp only [h.service]
  split
  · exact ⟨h, rfl⟩
  · exact h.openBody k b

theorem putWord (h : s.Alike t) (k : Service) (b : CueBody) (x : AdmittedWord) :
    (s.putWord k b x).1.Alike (t.putWord k b x).1 ∧ (t.putWord k b x).2 = (s.putWord k b x).2 := by
  unfold State.putWord
  simp only [h.service, h.now]
  have opened := h.setService k { s.service k with
    openCue := some ⟨b.put (b.fit x.word.text.length) (x.word.cutTo b.width), s.now,
      plus s.now (s.service k).par.idleClose⟩ }
  constructor
  · split
    · exact opened.closeCue k
    · exact opened
  · simp only [opened.closeCuts]

theorem turn (h : s.Alike t) (k : Service) (x : AdmittedWord) : (s.turn k x).Alike (t.turn k x) := by
  unfold State.turn
  split
  · exact h.closeCue k
  · exact h

theorem placeIn (h : s.Alike t) (k : Service) (x : AdmittedWord) :
    (s.placeIn k x).1.Alike (t.placeIn k x).1 ∧ (t.placeIn k x).2 = (s.placeIn k x).2 := by
  obtain ⟨opened, body⟩ := (h.turn k x).openOrNew k x.speakerChange
  obtain ⟨again, fresh⟩ := (opened.closeCue k).openBody k false
  rw [State.placeIn_eq, State.placeIn_eq, body, fresh]
  split
  · exact again.putWord k _ x
  · exact opened.putWord k _ x

theorem placeAll (h : s.Alike t) (x : AdmittedWord) (ks : List Service) :
    (State.placeAll x ks s).1.Alike (State.placeAll x ks t).1 ∧
      (State.placeAll x ks t).2 = (State.placeAll x ks s).2 := by
  induction ks generalizing s t with
  | nil => exact ⟨h, rfl⟩
  | cons k ks ih =>
    obtain ⟨first, placed⟩ := h.placeIn k x
    obtain ⟨rest, history⟩ := ih first
    exact ⟨rest, congrArg₂ List.cons placed history⟩

theorem assemble (h : s.Alike t) (p : Port) (x : AdmittedWord) (ks : List Service) :
    (s.assemble p x ks).Alike (t.assemble p x ks) := by
  unfold State.assemble
  split
  · exact h
  · obtain ⟨placed, history⟩ := h.placeAll x ks
    simp only [history]
    exact placed.joinHistory p _

/-! ### The relay controller -/

theorem answerGranted (h : s.Alike t) (p : Port) (c : Smc) : (s.answerGranted p c).Alike (t.answerGranted p c) :=
  h.update (State.answerGranted · p c) fun _ _ => rfl

theorem grantIdle (h : s.Alike t) (p : Port) (g : Group) : (s.grantIdle p g).Alike (t.grantIdle p g) :=
  h.update (State.grantIdle · p g) fun _ _ => rfl

theorem beginHandover (h : s.Alike t) (p q : Port) (g : Group) : (s.beginHandover p q g).Alike (t.beginHandover p q g) :=
  h.update (State.beginHandover · p q g) fun _ _ => rfl

theorem decideTake (h : s.Alike t) (p : Port) : (s.decideTake p).Alike (t.decideTake p) := by
  unfold State.decideTake
  simp only [h.takeResult, h.port, h.group]
  split
  · split
    · exact h.grantIdle ..
    · exact h.beginHandover ..
  · exact h.sendPort ..

theorem completeHandover (h : s.Alike t) (g : Group) (b : Bool) : (s.completeHandover g b).Alike (t.completeHandover g b) := by
  unfold State.completeHandover
  simp only [h.group]
  split
  · refine State.Alike.raise (State.Alike.clearHistory ?_ _) _ _
    split
    · exact (h.setGroup ..).enterLink ..
    · exact ((h.setGroup ..).enterLink ..).enterLink ..
  · exact h

theorem abortHandover (h : s.Alike t) (g : Group) : (s.abortHandover g).Alike (t.abortHandover g) := by
  unfold State.abortHandover
  simp only [h.group]
  split
  · exact h
  · exact (h.setGroup ..).enterLink ..

theorem decideRelease (h : s.Alike t) (p : Port) : (s.decideRelease p).Alike (t.decideRelease p) := by
  unfold State.decideRelease State.releaseOnAir State.releaseYielding
  simp only [h.port, h.group]
  split
  · exact (((h.setGroup ..).closeRouted ..).sendPort ..).enterLink ..
  · exact (h.sendPort ..).completeHandover ..
  · exact h.sendPort ..

theorem loseOnAir (h : s.Alike t) (g : Group) (heard : Option Smc) : (s.loseOnAir g heard).Alike (t.loseOnAir g heard) := by
  unfold State.loseOnAir
  simp only [h.group, h.readyMember, h.now]
  split
  · exact (((h.setGroup ..).answerGranted ..).enterLink ..).raise ..
  · exact (h.setGroup ..).closeRouted ..

theorem relayLoss (h : s.Alike t) (p : Port) : (s.relayLoss p).Alike (t.relayLoss p) := by
  unfold State.relayLoss
  simp only [h.port]
  split
  · exact h.abortHandover ..
  · exact h.completeHandover ..
  · exact h.loseOnAir ..
  · exact h

theorem admitEvent (h : s.Alike t) (p : Port) (e : Smc) (k : Service) :
    (State.admitEvent p e s k).Alike (State.admitEvent p e t k) := by
  unfold State.admitEvent
  simp only [h.service]
  split
  · exact h.raise ..
  · exact h.raise ..

theorem fanOut (h : s.Alike t) (p : Port) (g : Group) (x : AdmittedWord) : (s.fanOut p g x).Alike (t.fanOut p g x) := by
  unfold State.fanOut
  simp only [h.routed, h.service]
  split
  · exact h.raise ..
  · exact (h.foldl (fun _ _ k h => h.admitEvent p _ k) _).assemble ..

theorem staleEvent (h : s.Alike t) (p : Port) (w : WordRecord) : (s.staleEvent p w).Alike (t.staleEvent p w) :=
  h.raiseIf ..

theorem acceptWord (h : s.Alike t) (p : Port) (g : Group) (w : WordRecord) (e : Smc) :
    (s.acceptWord p g w e).Alike (t.acceptWord p g w e) := h.fanOut p g _

theorem judgeOnAir (h : s.Alike t) (p : Port) (g : Group) (w : WordRecord) :
    (s.judgeOnAir p g w).Alike (t.judgeOnAir p g w) := by
  unfold State.judgeOnAir
  simp only [h.speechFor, h.group]
  split
  · exact (h.staleEvent p w).raise ..
  · exact (h.staleEvent p w).acceptWord ..

theorem judgeYielding (h : s.Alike t) (p : Port) (g : Group) (w : WordRecord) :
    (s.judgeYielding p g w).Alike (t.judgeYielding p g w) := by
  unfold State.judgeYielding
  simp only [h.speechFor, h.group]
  split
  · exact (h.staleEvent p w).acceptWord ..
  · exact ((h.staleEvent p w).raise ..).completeHandover ..

theorem judgeWord (h : s.Alike t) (p : Port) (w : WordRecord) : (s.judgeWord p w).Alike (t.judgeWord p w) := by
  unfold State.judgeWord
  simp only [h.port]
  split
  · exact h.judgeOnAir ..
  · exact h.judgeYielding ..
  · exact h.raise ..

theorem expireYield (h : s.Alike t) (g : Group) : (s.expireYield g).Alike (t.expireYield g) := by
  unfold State.expireYield
  simp only [h.yieldExpired]
  split
  · exact h.completeHandover ..
  · exact h

theorem ageCut (h : s.Alike t) (g : Group) : (s.ageCut g).Alike (t.ageCut g) := by
  unfold State.ageCut
  simp only [h.group, h.now]
  split
  · exact h
  · split
    · exact h.setGroup ..
    · exact h

/-! ### The contributor links -/

theorem frameFails (h : s.Alike t) (p : Port) : (s.frameFails p).Alike (t.frameFails p) := by
  unfold State.frameFails
  simp only [h.port]
  split
  · exact h
  · exact h.raise ..

theorem refreshLink (h : s.Alike t) (p : Port) : (s.refreshLink p).Alike (t.refreshLink p) := by
  unfold State.refreshLink
  simp only [h.port, h.now, h.silenceTimeout]
  split
  · exact (h.setPort ..).enterLink ..
  · exact h.setPort ..

theorem loseLink (h : s.Alike t) (p : Port) : (s.loseLink p).Alike (t.loseLink p) := by
  have lost := h.relayLoss p
  unfold State.loseLink
  simp only [lost.port]
  exact (((lost.setPort ..).sendPort ..).raise ..).setAlert ..

theorem expireSilence (h : s.Alike t) (p : Port) : (s.expireSilence p).Alike (t.expireSilence p) := by
  unfold State.expireSilence
  simp only [h.silenceExpired]
  split
  · exact h.loseLink p
  · exact h

theorem sendHold (h : s.Alike t) (p : Port) : (s.sendHold p).Alike (t.sendHold p) := by
  unfold State.sendHold
  simp only [h.port, h.now]
  exact ((h.setPort ..).sendPort ..).raise ..

theorem afterPush (h : s.Alike t) (p : Port) : (s.afterPush p).Alike (t.afterPush p) := by
  unfold State.afterPush
  simp only [h.port]
  split
  · exact h.sendHold p
  · exact h

theorem afterRemoval (h : s.Alike t) (p : Port) : (s.afterRemoval p).Alike (t.afterRemoval p) := by
  unfold State.afterRemoval State.sendResume
  simp only [h.port]
  split
  · exact (h.setPort ..).sendPort ..
  · exact h

theorem push (h : s.Alike t) (p : Port) (r : IntakeRecord) : (s.push p r).Alike (t.push p r) := by
  unfold State.push
  simp only [h.port, h.intakeCapacity]
  split
  · exact (h.setPort ..).afterPush p
  · exact (h.setAlert ..).raiseIf ..

theorem removeHead (h : s.Alike t) (p : Port) : (s.removeHead p).Alike (t.removeHead p) := by
  unfold State.removeHead
  simp only [h.port]
  exact (h.setPort ..).afterRemoval p

theorem expireRefresh (h : s.Alike t) (p : Port) : (s.expireRefresh p).Alike (t.expireRefresh p) := by
  unfold State.expireRefresh
  simp only [h.refreshExpired]
  split
  · exact h.sendHold p
  · exact h

theorem addSample (h : s.Alike t) (p : Port) (x : Int) : (s.addSample p x).Alike (t.addSample p x) := by
  unfold State.addSample
  simp only [h.port]
  split
  · exact (h.setPort ..).enterLink ..
  · exact h.setPort ..

theorem lineFailure (h : s.Alike t) (p : Port) (v : FrameVerdict) :
    (State.lineFailure p s v).Alike (State.lineFailure p t v) := by
  unfold State.lineFailure
  simp only [h.receives]
  split
  · exact h
  · exact h.frameFails p
  · split
    · exact (h.refreshLink p).raise ..
    · exact h

theorem contributorFailure (h : s.Alike t) (p : Port) (raw : List Byte) :
    (s.contributorFailure p raw).Alike (t.contributorFailure p raw) := by
  unfold State.contributorFailure
  simp only [h.port]
  exact h.foldl (fun _ _ v h => h.lineFailure p v) _

/-- What a message makes of two states: nothing of both, or states that are alike. -/
def OrNothing : Option State → Option State → Prop
  | none, none => True
  | some s, some t => s.Alike t
  | _, _ => False

theorem receive (h : s.Alike t) (p : Port) (type : ContributorType) {act : State → Option State}
    (acts : ∀ s t, s.Alike t → OrNothing (act s) (act t)) : (s.receive p type act).Alike (t.receive p type act) := by
  have refreshed := h.refreshLink p
  unfold State.receive
  simp only [h.receives, h.port]
  split
  · split
    · have acted := acts _ _ refreshed
      revert acted
      cases act (s.refreshLink p) <;> cases act (t.refreshLink p)
      · exact fun _ => refreshed.raise ..
      · exact False.elim
      · exact False.elim
      · exact id
    · exact refreshed.raise ..
  · exact h

theorem receiveBytes (h : s.Alike t) (p : Port) (type : ContributorType) (payload : List Byte)
    {act : State → Option State} (acts : ∀ s t, s.Alike t → OrNothing (act s) (act t)) :
    (s.receiveBytes p type payload act).Alike (t.receiveBytes p type payload act) := by
  unfold State.receiveBytes
  split
  · exact h.frameFails p
  · exact h.receive p type acts

/-- A handling that reads its message and then acts. -/
theorem OrNothing.map {α : Type} (o : Option α) {f g : α → State} (acts : ∀ x, (f x).Alike (g x)) :
    OrNothing (o.map f) (o.map g) := by
  cases o with
  | none => exact trivial
  | some x => exact acts x

theorem OrNothing.unless {c : Prop} [Decidable c] (h : s.Alike t) :
    OrNothing (if c then none else some s) (if c then none else some t) := by
  split
  · exact trivial
  · exact h

theorem pushWord (h : s.Alike t) (p : Port) (tick : BitVec 32) (e c : Bool) (text : Text) :
    (s.pushWord p tick e c text).Alike (t.pushWord p tick e c text) := by
  unfold State.pushWord
  simp only [h.now]
  exact (h.raiseIf ..).push ..

theorem takeInWord (h : s.Alike t) (p : Port) (payload : List Byte) :
    OrNothing (State.takeInWord p payload s) (State.takeInWord p payload t) := by
  refine .map _ fun ⟨tick, e, c, raw⟩ => ?_
  dsimp only
  split
  · exact h.raise ..
  · exact h.pushWord ..

theorem takeInStamp (h : s.Alike t) (p : Port) (payload : List Byte) :
    OrNothing (State.takeInStamp p payload s) (State.takeInStamp p payload t) := by
  unfold State.takeInStamp
  simp only [h.now]
  exact .map _ fun _ => h.addSample ..

theorem takeInRetract (h : s.Alike t) (p : Port) (n : Nat) :
    OrNothing (State.takeInRetract p n s) (State.takeInRetract p n t) := by
  unfold State.takeInRetract
  simp only [h.now]
  exact .unless (h.push ..)

theorem takeWord (h : s.Alike t) (p : Port) : (s.takeWord p).Alike (t.takeWord p) := by
  unfold State.takeWord
  simp only [h.nextRecord]
  split
  · exact (h.removeHead p).judgeWord ..
  · exact h

theorem takeRetract (h : s.Alike t) (p : Port) : (s.takeRetract p).Alike (t.takeRetract p) := by
  unfold State.takeRetract
  simp only [h.nextRecord]
  split
  · exact (h.removeHead p).retractWords ..
  · exact h

end State.Alike

end Sys2Proof.Machine
end

section
set_option Elab.async false
/-! SUPPORT. The package store, the placement unit, the automation unit, the output scheduler and the work of a frame boundary take
states that differ in counters and alerts alone to such states. -/

namespace Sys2Proof.Machine

variable {s t u : State} {x y : Sending}

namespace State.Alike

/-! ### What these units read -/

theorem cueRefused (h : s.Alike t) (r : PackageRecord) (c : PreparedCue) : t.cueRefused r c = s.cueRefused r c :=
  h.read (State.cueRefused · r c) fun _ _ => rfl
theorem packageReady (h : s.Alike t) (id : PackageId) : t.packageReady id = s.packageReady id :=
  h.read (State.packageReady · id) fun _ _ => rfl
theorem acceptance (h : s.Alike t) (f : EventFields) (e : Smc) (b : Bool) : t.acceptance f e b = s.acceptance f e b :=
  h.read (State.acceptance · f e b) fun _ _ => rfl
theorem dueSequence (h : s.Alike t) (k : Service) : t.dueSequence k = s.dueSequence k :=
  h.read (State.dueSequence · k) fun _ _ => rfl
theorem isDue (h : s.Alike t) : t.isDue = s.isDue := h.read State.isDue fun _ _ => rfl
theorem enabledServices (h : s.Alike t) : t.enabledServices = s.enabledServices :=
  h.read State.enabledServices fun _ _ => rfl
theorem boundarySteps (h : s.Alike t) (o : BoundaryOrder) : t.boundarySteps o = s.boundarySteps o :=
  h.read (State.boundarySteps · o) fun _ _ => rfl

/-! ### The requests made of a display, and straps -/

theorem requestClear (h : s.Alike t) (k : Service) : (s.requestClear k).Alike (t.requestClear k) :=
  h.update (State.requestClear · k) fun _ _ => rfl

theorem cutCommitted (h : s.Alike t) (k : Service) : (s.cutCommitted k).Alike (t.cutCommitted k) := by
  unfold State.cutCommitted
  simp only [h.service]
  split
  · exact h
  · exact (h.setService ..).raise ..

theorem coverCheck (h : s.Alike t) (k : Service) : (s.coverCheck k).Alike (t.coverCheck k) := by
  unfold State.coverCheck
  simp only [h.service]
  split
  · exact h
  · split
    · exact (h.setService ..).raiseIf ..
    · exact h

theorem applyStrap (h : s.Alike t) (k : Service) (slot : Fin 4) (rows : Option Strap) :
    (s.applyStrap k slot rows).Alike (t.applyStrap k slot rows) := by
  unfold State.applyStrap
  simp only [h.service]
  split
  · exact h.setService ..
  · exact (h.setService ..).coverCheck k

theorem endPlay (h : s.Alike t) (k : Service) : (s.endPlay k).Alike (t.endPlay k) := by
  unfold State.endPlay
  simp only [h.service]
  split
  · exact h
  · have ended := h.setService k { s.service k with pointer := none }
    unfold State.cutPrepared
    simp only [ended.service]
    split
    · exact ended
    · split
      · exact ended.cutCommitted k
      · exact ended

/-! ### The package store -/

theorem answerPackage (h : s.Alike t) (p : Port) (id : PackageId) (r : PackageResult) :
    (s.answerPackage p id r).Alike (t.answerPackage p id r) := h.sendPort ..

theorem setLoad (h : s.Alike t) (p : Port) (c : LoadContext) : (s.setLoad p c).Alike (t.setLoad p c) :=
  h.update (State.setLoad · p c) fun _ _ => rfl

theorem freePackage (h : s.Alike t) (id : PackageId) : (s.freePackage id).Alike (t.freePackage id) :=
  h.update (State.freePackage · id) fun _ _ => rfl

theorem failLoad (h : s.Alike t) (p : Port) (id : PackageId) (why : LoadFailure) (c : LoadContext) :
    (s.failLoad p id why c).Alike (t.failLoad p id why c) := by
  unfold State.failLoad
  simp only [h.findPackage]
  exact (((h.freePackage ..).setLoad ..).setAlert ..).answerPackage ..

theorem endLoad (h : s.Alike t) (p : Port) : (s.endLoad p).Alike (t.endLoad p) := by
  unfold State.endLoad
  simp only [h.port]
  split
  · exact h
  · exact h.failLoad ..
  · exact h.setLoad ..

theorem openPackage (h : s.Alike t) (p : Port) (id : PackageId) (n : Nat) :
    (s.openPackage p id n).Alike (t.openPackage p id n) := by
  unfold State.openPackage
  simp only [h.findPackage, h.packages]
  split
  · split
    · exact ((h.setLoad ..).setAlert ..).answerPackage ..
    · exact (h.setPackages ..).setLoad ..
  · split
    · exact (h.setPackages ..).setLoad ..
    · exact ((h.setLoad ..).setAlert ..).answerPackage ..

theorem loadCue (h : s.Alike t) (p : Port) (c : PreparedCue) : (s.loadCue p c).Alike (t.loadCue p c) := by
  unfold State.loadCue
  simp only [h.port, h.findPackage, h.cueRefused, h.packages]
  split
  · exact h.raise ..
  · exact h
  · split
    · exact h
    · split
      · exact h.failLoad ..
      · exact h.setPackages ..

theorem closeLoad (h : s.Alike t) (p : Port) (id : PackageId) (r : PackageRecord) :
    (s.closeLoad p id r).Alike (t.closeLoad p id r) := by
  unfold State.closeLoad
  simp only [h.packages]
  split
  · exact ((h.setPackages ..).setLoad ..).answerPackage ..
  · exact h.failLoad ..

theorem closePackage (h : s.Alike t) (p : Port) (id : PackageId) : (s.closePackage p id).Alike (t.closePackage p id) := by
  unfold State.closePackage
  simp only [h.port, h.findPackage]
  split
  · split
    · split
      · exact h.answerPackage ..
      · exact h.closeLoad ..
    · exact h.answerPackage ..
  · split
    · exact h.setLoad ..
    · exact h.answerPackage ..
  · exact h.answerPackage ..

theorem forget (h : s.Alike t) (p : Port) (id : PackageId) : (s.forget p id).Alike (t.forget p id) := by
  unfold State.forget
  simp only [h.port]
  split
  · exact h.setLoad ..
  · exact h

theorem endPlays (h : s.Alike t) (id : PackageId) : (s.endPlays id).Alike (t.endPlays id) := by
  refine h.foldl (fun s t k h => ?_) _
  simp only [h.plays]
  split
  · exact h.endPlay k
  · exact h

theorem dropPackage (h : s.Alike t) (p : Port) (id : PackageId) : (s.dropPackage p id).Alike (t.dropPackage p id) := by
  unfold State.dropPackage
  simp only [h.findPackage]
  split
  · exact (h.forget ..).answerPackage ..
  · split
    · exact (((h.endPlays ..).freePackage ..).forget ..).answerPackage ..
    · split
      · exact ((h.freePackage ..).setLoad ..).answerPackage ..
      · exact h.answerPackage ..

theorem takeOpen (h : s.Alike t) (p : Port) : (s.takeOpen p).Alike (t.takeOpen p) := by
  unfold State.takeOpen
  simp only [h.nextRecord]
  split
  · exact ((h.removeHead p).endLoad p).openPackage ..
  · exact h

theorem takeCue (h : s.Alike t) (p : Port) : (s.takeCue p).Alike (t.takeCue p) := by
  unfold State.takeCue
  simp only [h.nextRecord]
  split
  · exact (h.removeHead p).loadCue ..
  · exact h

theorem takeClose (h : s.Alike t) (p : Port) : (s.takeClose p).Alike (t.takeClose p) := by
  unfold State.takeClose
  simp only [h.nextRecord]
  split
  · exact (h.removeHead p).closePackage ..
  · exact h

theorem takeDrop (h : s.Alike t) (p : Port) : (s.takeDrop p).Alike (t.takeDrop p) := by
  unfold State.takeDrop
  simp only [h.nextRecord]
  split
  · exact (h.removeHead p).dropPackage ..
  · exact h

theorem takeHead (h : s.Alike t) (p : Port) : (s.takeHead p).Alike (t.takeHead p) := by
  unfold State.takeHead
  simp only [h.nextRecord]
  split
  · exact h
  · exact h.takeWord p
  · exact h.takeRetract p
  · exact h.takeOpen p
  · exact h.takeCue p
  · exact h.takeClose p
  · exact h.takeDrop p

/-! ### The automation unit -/

theorem cutQueue (h : s.Alike t) (k : Service) (m : Smc) : (s.cutQueue k m).Alike (t.cutQueue k m) := by
  unfold State.cutQueue
  simp only [h.service]
  refine (h.setService ..).foldl (fun s t c h => ?_) _
  exact (h.markCue ..).raise ..

theorem cutLiveCommitted (h : s.Alike t) (k : Service) (m : Smc) :
    (s.cutLiveCommitted k m).Alike (t.cutLiveCommitted k m) := by
  unfold State.cutLiveCommitted
  simp only [h.service]
  split
  · exact h
  · split
    · exact h.cutCommitted k
    · exact h

theorem clearPrepared (h : s.Alike t) (k : Service) : (s.clearPrepared k).Alike (t.clearPrepared k) := by
  unfold State.clearPrepared
  simp only [h.service]
  split
  · exact h
  · split
    · exact h.requestClear k
    · exact h

theorem setKind (h : s.Alike t) (k : Service) (x : SegKind) (l : LastSwitch) : (s.setKind k x l).Alike (t.setKind k x l) :=
  h.update (State.setKind · k x l) fun _ _ => rfl

theorem setLiveStart (h : s.Alike t) (k : Service) (m : Smc) : (s.setLiveStart k m).Alike (t.setLiveStart k m) :=
  h.update (State.setLiveStart · k m) fun _ _ => rfl

theorem switchLive (h : s.Alike t) (k : Service) (m : Smc) : (s.switchLive k m).Alike (t.switchLive k m) :=
  (((h.endPlay k).clearPrepared k).setKind ..).setLiveStart ..

theorem switchBreak (h : s.Alike t) (k : Service) (m : Smc) : (s.switchBreak k m).Alike (t.switchBreak k m) :=
  ((((h.endPlay k).setKind ..).cutQueue ..).cutLiveCommitted ..).requestClear k

theorem switchPackage (h : s.Alike t) (k : Service) (m : Smc) (id : PackageId) :
    (s.switchPackage k m id).Alike (t.switchPackage k m id) := by
  have ended := h.endPlay k
  unfold State.switchPackage
  simp only [ended.service]
  exact (((ended.setService ..).setKind ..).cutQueue ..).cutLiveCommitted ..

theorem switchFallback (h : s.Alike t) (k : Service) (m e : Smc) :
    (s.switchFallback k m e).Alike (t.switchFallback k m e) := by
  have live := (((h.endPlay k).clearPrepared k).setKind k .live ⟨.package, m, true⟩).setLiveStart k m
  unfold State.switchFallback
  simp only [live.service]
  exact live.setService ..

theorem applySwitch (h : s.Alike t) (k : Service) (e : SwitchEntry) :
    (State.applySwitch k s e).Alike (State.applySwitch k t e) := by
  unfold State.applySwitch
  simp only [h.packageReady]
  split
  · exact h.switchLive ..
  · exact h.switchBreak ..
  · split
    · exact h.switchPackage ..
    · exact h.switchFallback ..
  · exact h.applyStrap ..

theorem joinSwitch (h : s.Alike t) (k : Service) (e : SwitchEntry) : (s.joinSwitch k e).Alike (t.joinSwitch k e) := by
  unfold State.joinSwitch
  simp only [h.service]
  split
  · exact h.setService ..
  · split
    · exact h
    · exact ((h.setService ..).raise ..).applySwitch ..

theorem setEvents (h : s.Alike t) (l : List PendingEvent) : State.Alike { s with events := l } { t with events := l } :=
  h.update (fun s => { s with events := l }) fun _ _ => rfl

theorem applyEvent (h : s.Alike t) (e : PendingEvent) : (s.applyEvent e).Alike (t.applyEvent e) := by
  unfold State.applyEvent
  simp only [h.service]
  split
  · exact h.changeRoute ..
  · exact h.setService ..
  next g _ =>
    have entered := h.setService e.service ((s.service e.service).enterSegment g e.effect)
    simp only [entered.service]
    exact entered.joinSwitch ..
  · exact h.joinSwitch ..

theorem expireEffects (h : s.Alike t) : s.expireEffects.Alike t.expireEffects := by
  unfold State.expireEffects
  rw [h.events, h.now]
  exact (h.setEvents _).foldl (fun _ _ e h => h.applyEvent e) _

theorem expireSwitches (h : s.Alike t) (k : Service) : (s.expireSwitches k).Alike (t.expireSwitches k) := by
  unfold State.expireSwitches
  simp only [h.service, h.now]
  exact (h.setService ..).foldl (fun _ _ e h => h.applySwitch k e) _

theorem ageLiveStart (h : s.Alike t) (k : Service) : (s.ageLiveStart k).Alike (t.ageLiveStart k) := by
  unfold State.ageLiveStart
  simp only [h.service, h.now]
  split
  · exact h
  · split
    · exact h.setService ..
    · exact h

theorem ageLastChange (h : s.Alike t) (k : Service) : (s.ageLastChange k).Alike (t.ageLastChange k) := by
  unfold State.ageLastChange
  simp only [h.service, h.now]
  split
  · exact h
  · split
    · exact h.setService ..
    · exact h

theorem acceptEvent (h : s.Alike t) (tag : BitVec 16) (f : EventFields) (e : Smc) (b : Bool) :
    (s.acceptEvent tag f e b).Alike (t.acceptEvent tag f e b) := by
  unfold State.acceptEvent
  rw [h.events, h.acceptance]
  split
  · exact h.sendAnswer _
  · exact (h.setEvents _).sendAnswer _

theorem takeEvent (h : s.Alike t) (payload : List Byte) : (s.takeEvent payload).Alike (t.takeEvent payload) := by
  unfold State.takeEvent State.convertEvent
  simp only [h.running, h.service, h.ref, h.now]
  split
  · exact h
  · split
    · exact h.sendAnswer _
    · split
      · split
        · exact h.sendAnswer _
        · exact (h.raiseIf ..).acceptEvent ..
        · exact h.acceptEvent ..
      · exact h.sendAnswer _

/-! ### The output scheduler -/

theorem skipDue (h : s.Alike t) (k : Service) (d : Due) : (State.skipDue k s d).Alike (State.skipDue k t d) := by
  unfold State.skipDue
  simp only [h.service]
  split
  · exact ((h.setService ..).markCue ..).raise ..
  · exact (h.setService ..).raise ..

theorem enterSlot (h : s.Alike t) (k : Service) (c : CommittedSource) : (s.enterSlot k c).Alike (t.enterSlot k c) := by
  unfold State.enterSlot
  simp only [h.service]
  exact (h.setService ..).raiseIf ..

theorem commitDue (h : s.Alike t) (k : Service) (d : Due) : (s.commitDue k d).Alike (t.commitDue k d) := by
  unfold State.commitDue
  simp only [h.service]
  split
  · exact ((h.setService ..).markCue ..).enterSlot ..
  · exact ((h.setService ..).raiseTimes ..).enterSlot ..

theorem supersede (h : s.Alike t) (k : Service) : (s.supersede k).Alike (t.supersede k) := by
  unfold State.supersede
  simp only [h.service]
  split
  · exact h
  · exact (h.setService ..).raise ..

theorem commitStep (h : s.Alike t) (k : Service) : (s.commitStep k).Alike (t.commitStep k) := by
  unfold State.commitStep
  simp only [h.dueSequence, h.isDue]
  split
  · exact h
  · exact ((h.foldl (fun _ _ d h => h.skipDue k d) _).supersede k).commitDue k _

theorem expireClear (h : s.Alike t) (k : Service) : (s.expireClear k).Alike (t.expireClear k) := by
  unfold State.expireClear
  simp only [h.service, h.now]
  split
  · exact (h.setService ..).requestClear k
  · exact h

theorem accountLateness (h : s.Alike t) (k : Service) (c : Committed) :
    (s.accountLateness k c).Alike (t.accountLateness k c) := by
  unfold State.accountLateness
  simp only [h.service, h.now]
  split
  · exact h
  · exact (h.setService ..).raise ..

theorem sendShow (h : s.Alike t) (k : Service) (c : Committed) : (s.sendShow k c).Alike (t.sendShow k c) := by
  unfold State.sendShow
  simp only [h.service, h.now]
  split
  · exact (((h.setService ..).sendOutput ..).accountLateness ..).coverCheck k
  · exact ((h.setService ..).sendOutput ..).accountLateness ..

theorem sendControl (h : s.Alike t) (k : Service) : (s.sendControl k).Alike (t.sendControl k) := by
  unfold State.sendControl
  simp only [h.service]
  split
  · exact h
  · exact (h.setService ..).sendOutput ..
  · exact ((h.setService ..).sendOutput ..).raise ..

theorem setDeficit (h : s.Alike t) (k : Service) (d : Nat) : (s.setDeficit k d).Alike (t.setDeficit k d) :=
  h.update (State.setDeficit · k d) fun _ _ => rfl

theorem setRoundRobin (h : s.Alike t) (k : Service) : State.Alike { s with roundRobin := k } { t with roundRobin := k } :=
  h.update (fun s => { s with roundRobin := k }) fun _ _ => rfl

theorem setBusyCount (h : s.Alike t) (n : Nat) : State.Alike { s with busyCount := n } { t with busyCount := n } :=
  h.update (fun s => { s with busyCount := n }) fun _ _ => rfl

theorem checkStall (h : s.Alike t) : s.checkStall.Alike t.checkStall := by
  unfold State.checkStall
  simp only [h.busyCount]
  split
  · exact h.setAlert ..
  · exact h

theorem deferEvent (h : s.Alike t) (k : Service) : (s.deferEvent k).Alike (t.deferEvent k) := h.raiseIf ..

theorem account (h : s.Alike t) : s.account.Alike t.account := by
  cases state : s.inserter with
  | ready =>
    have deferred := h.foldl (f := State.deferEvent) (fun _ _ k h => h.deferEvent k) s.enabledServices
    have first : s.account = { s.enabledServices.foldl State.deferEvent s with busyCount := 0 } := by
      simp only [State.account, state]
    have last : t.account = { s.enabledServices.foldl State.deferEvent t with busyCount := 0 } := by
      simp only [State.account, h.inserter, state, h.enabledServices]
    rw [first, last]
    exact deferred.setBusyCount 0
  | busy =>
    rw [State.account_of_busy state, State.account_of_busy (h.inserter.trans state), h.busyCount]
    have counted := (h.setBusyCount (s.busyCount + 1)).raise (plainEvent .outputBusyFrames) (plainEvent .outputBusyFrames)
    dsimp only
    split
    · exact counted.setAlert ..
    · exact counted

theorem deadlineStep (h : s.Alike t) : s.deadlineStep.Alike t.deadlineStep := by
  unfold State.deadlineStep
  rw [h.enabledServices]
  exact h.foldl (fun _ _ k h => h.expireClear k) _

theorem expireIdle (h : s.Alike t) (k : Service) : (s.expireIdle k).Alike (t.expireIdle k) := by
  unfold State.expireIdle
  simp only [h.service, h.now]
  split
  · exact h
  · split
    · exact h.closeCue k
    · exact h

theorem runTask (h : s.Alike t) (z : BoundaryTask) : (s.runTask z).Alike (t.runTask z) := by
  cases z with
  | refresh p => exact h.expireRefresh p
  | silence p => exact h.expireSilence p
  | yieldEnd g => exact h.expireYield g
  | cutAged g => exact h.ageCut g
  | idle k => exact h.expireIdle k
  | effects => exact h.expireEffects
  | switches k => exact h.expireSwitches k
  | liveStartAged k => exact h.ageLiveStart k
  | lastChangeAged k => exact h.ageLastChange k
  | take p => exact h.takeHead p

end State.Alike

/-! ### The work of a boundary -/

/-- The states of the work differ in counters and alerts alone, and the same is left of the budget. -/
structure Sending.Alike (x y : Sending) : Prop where
  state : x.state.Alike y.state
  budget : y.budget = x.budget

namespace Sending.Alike

theorem foldl {α : Type} {f : Sending → α → Sending} (h : x.Alike y) (pass : ∀ x y z, x.Alike y → (f x z).Alike (f y z))
    (l : List α) : (l.foldl f x).Alike (l.foldl f y) := by
  induction l generalizing x y with
  | nil => exact h
  | cons z l ih => exact ih (pass x y z h)

theorem control (h : x.Alike y) (k : Service) : (x.control k).Alike (y.control k) := by
  unfold Sending.control
  simp only [h.state.service, h.budget]
  split
  · exact ⟨h.state.sendControl k, rfl⟩
  · exact h

theorem strict (h : x.Alike y) (k : Service) : (x.strict k).Alike (y.strict k) := by
  unfold Sending.strict
  simp only [h.state.service, h.budget]
  split
  · exact h
  · split
    · exact ⟨h.state.sendShow k _, rfl⟩
    · exact h

theorem wrr (h : x.Alike y) (k : Service) : (x.wrr k).Alike (y.wrr k) := by
  unfold Sending.wrr
  rw [h.state.service, h.budget]
  dsimp only
  split
  · exact ⟨h.state.setDeficit k 0, rfl⟩
  · split
    · exact ⟨((h.state.setDeficit k _).sendShow k _).setRoundRobin k, rfl⟩
    · exact ⟨h.state.setDeficit k _, rfl⟩

theorem controls (h : x.Alike y) : x.controls.Alike y.controls := by
  unfold Sending.controls
  rw [h.state.inserter, h.state.enabledServices, h.state.budget]
  have whole : Sending.Alike ⟨x.state, x.state.budget⟩ ⟨y.state, x.state.budget⟩ := ⟨h.state, rfl⟩
  split
  · exact whole.foldl (fun _ _ k h => h.control k) _
  · exact h

theorem captions (h : x.Alike y) : x.captions.Alike y.captions := by
  unfold Sending.captions
  simp only [h.state.inserter, h.state.schedMode, h.state.enabledServices, h.state.roundRobin, h.state.service]
  split
  · exact h
  · exact h.foldl (fun _ _ k h => h.strict k) _
  · exact h.foldl (fun _ _ k h => h.wrr k) _

theorem runStep (h : x.Alike y) (z : BoundaryStep) : (x.runStep z).Alike (y.runStep z) := by
  cases z with
  | task z => exact ⟨h.state.runTask z, h.budget⟩
  | deadlines => exact ⟨h.state.deadlineStep, h.budget⟩
  | commit k => exact ⟨h.state.commitStep k, h.budget⟩
  | controls => exact h.controls
  | captions => exact h.captions
  | account => exact ⟨h.state.account, h.budget⟩

theorem runSteps (h : x.Alike y) (l : List BoundaryStep) :
    (l.foldl Sending.runStep x).Alike (l.foldl Sending.runStep y) := h.foldl (fun _ _ z h => h.runStep z) l

theorem sampleLevels (h : x.Alike y) :
    Sending.Alike ⟨x.state.sampleLevels, x.budget⟩ ⟨y.state.sampleLevels, y.budget⟩ := ⟨h.state.sampleLevels, h.budget⟩

end Sending.Alike

theorem State.Alike.sending (h : s.Alike t) (n : Nat) : Sending.Alike ⟨s, n⟩ ⟨t, n⟩ := ⟨h, rfl⟩

namespace State.Alike

theorem finishBoundary (h : s.Alike t) : s.finishBoundary.Alike t.finishBoundary :=
  h.foldl (fun _ _ z h => h.runTask z) _

theorem advanceBoundary (h : s.Alike t) (m : Moment) : (s.advanceBoundary m).Alike (t.advanceBoundary m) :=
  State.Alike.raiseIf (h.update (fun s => State.armTimers { s with ref := s.ref.advance m }) fun _ _ => rfl) ..

theorem frameBoundary (h : s.Alike t) (m : Moment) (o : BoundaryOrder) : (s.frameBoundary m o).Alike (t.frameBoundary m o) := by
  have made := h.finishBoundary.advanceBoundary m
  unfold State.frameBoundary
  dsimp only
  rw [made.budget, made.boundarySteps]
  have first := (made.sending (s.finishBoundary.advanceBoundary m).budget).runSteps
    (((s.finishBoundary.advanceBoundary m).boundarySteps o).take o.sample)
  exact (first.sampleLevels.runSteps _).state

end State.Alike

end Sys2Proof.Machine
end

section
set_option Elab.async false
/-! SUPPORT. The reference unit, the parameters and the supervisory unit take states that differ in counters and alerts alone to such
states, and answer them alike but for what is reported of counters and alerts. -/

namespace Sys2Proof.Machine

variable {s t u : State} {q r : Reply}

namespace State.Alike

/-! ### The reference unit -/

theorem setRef (h : s.Alike t) (x : RefUnit) : State.Alike { s with ref := x } { t with ref := x } :=
  h.update (fun s => { s with ref := x }) fun _ _ => rfl

theorem unlockedPulse (h : s.Alike t) (o : RefOrigin) (m : Moment) : (s.unlockedPulse o m).Alike (t.unlockedPulse o m) := by
  unfold State.unlockedPulse
  simp only [h.ref]
  split
  · exact h.setRef _
  · exact h.setRef _

theorem lockedBoundary (h : s.Alike t) (b : Bool) (m : Moment) (o : BoundaryOrder) :
    (s.lockedBoundary b m o).Alike (t.lockedBoundary b m o) := by
  unfold State.lockedBoundary
  split
  · exact h
  · exact h.frameBoundary m o

theorem qualifyingPulse (h : s.Alike t) (m : Moment) (o : BoundaryOrder) :
    (s.qualifyingPulse m o).Alike (t.qualifyingPulse m o) := by
  unfold State.qualifyingPulse
  simp only [h.ref]
  split
  · exact h.setRef _
  · split
    · exact ((h.setRef _).setAlert _ _).lockedBoundary _ m o
    · exact h.setRef _

theorem lockedPulse (h : s.Alike t) (m : Moment) (o : BoundaryOrder) : (s.lockedPulse m o).Alike (t.lockedPulse m o) := by
  rw [State.lockedPulse_eq, State.lockedPulse_eq, h.ref]
  split
  · exact h.setRef _
  · exact (h.setRef _).frameBoundary m o

theorem pulse (h : s.Alike t) (m : Moment) (o : BoundaryOrder) : (s.pulse m o).Alike (t.pulse m o) := by
  unfold State.pulse
  rw [h.ref]
  split
  · exact h.unlockedPulse _ m
  · exact h.unlockedPulse _ m
  · exact h.qualifyingPulse m o
  · exact h.lockedPulse m o

theorem missPulse (h : s.Alike t) : s.missPulse.Alike t.missPulse := by
  unfold State.missPulse
  rw [h.ref]
  split
  · exact h.setRef _
  · exact h

theorem loseReference (h : s.Alike t) (o : BoundaryOrder) : (s.loseReference o).Alike (t.loseReference o) := by
  unfold State.loseReference
  rw [h.ref]
  split
  · exact (((h.setRef _).setAlert _ _).raise _ _).frameBoundary _ o
  · exact h

theorem flywheelTick (h : s.Alike t) (o : BoundaryOrder) : (s.flywheelTick o).Alike (t.flywheelTick o) := by
  unfold State.flywheelTick
  rw [h.ref]
  split
  · exact h
  · exact (h.setRef _).frameBoundary _ o

theorem takeLabel (h : s.Alike t) (ok : Bool) (l : Label) : (s.takeLabel ok l).Alike (t.takeLabel ok l) := by
  unfold State.takeLabel State.checkLabel
  rw [h.ref]
  dsimp only
  split
  · split
    · exact h.setRef _
    · split
      · exact h.setRef _
      · split
        · exact h
        · exact (h.setRef _).raise _ _
  · exact h

/-! ### The writes of parameters -/

theorem setPortPar (h : s.Alike t) (p : Port) (x : PortParams) : (s.setPortPar p x).Alike (t.setPortPar p x) :=
  h.update (State.setPortPar · p x) fun _ _ => rfl

theorem setServicePar (h : s.Alike t) (k : Service) (x : ServiceParams) :
    (s.setServicePar k x).Alike (t.setServicePar k x) := h.update (State.setServicePar · k x) fun _ _ => rfl

theorem writeRate (h : s.Alike t) (m : Moment) (x : Rate) : (s.writeRate m x).Alike (t.writeRate m x) := by
  unfold State.writeRate
  rw [h.ref]
  split
  · exact h
  · exact h.setRef _

theorem sendResume (h : s.Alike t) (p : Port) : (s.sendResume p).Alike (t.sendResume p) :=
  h.update (State.sendResume · p) fun _ _ => rfl

theorem writeFlowControl (h : s.Alike t) (p : Port) (b : Bool) :
    (s.writeFlowControl p b).Alike (t.writeFlowControl p b) := by
  unfold State.writeFlowControl
  simp only [h.port]
  split
  · exact (h.setPortPar p _).sendResume p
  · exact h.setPortPar p _

theorem writeRoute (h : s.Alike t) (k : Service) (g : Option Group) : (s.writeRoute k g).Alike (t.writeRoute k g) := by
  unfold State.writeRoute
  simp only [h.service, h.running]
  split
  · exact (h.setServicePar k _).changeRoute k g
  · exact h.setServicePar k _

theorem writeSchedMode (h : s.Alike t) (x : SchedMode) : (s.writeSchedMode x).Alike (t.writeSchedMode x) := by
  unfold State.writeSchedMode
  rw [h.schedMode]
  split
  · exact h
  · exact h.update (fun s => { s with
      schedMode := x, roundRobin := 3, services := s.services.map fun v => { v with deficit := 0 } }) fun _ _ => rfl

theorem writePool (h : s.Alike t) (x : Region) : (s.writePool x).Alike (t.writePool x) := by
  unfold State.writePool
  rw [h.poolRegion]
  split
  · exact h
  · exact h.update (fun s => { s.discardPackages with poolRegion := x }) fun _ _ => rfl

theorem writeRegion (h : s.Alike t) (n : RegionName) (x : Region) : (s.writeRegion n x).Alike (t.writeRegion n x) := by
  unfold State.writeRegion
  simp only [h.port, h.service]
  split
  · exact h.setPortPar ..
  · exact h.setServicePar ..
  · exact h.writePool x

theorem regionOf (h : s.Alike t) (n : RegionName) : t.regionOf n = s.regionOf n := by
  cases n with
  | port p => exact congrArg (·.par.region) (h.port p)
  | service k => exact congrArg (·.par.region) (h.service k)
  | pool => exact h.poolRegion

theorem readOf (h : s.Alike t) (x : Param) : x.read t = x.read s := by
  unfold Param.read
  simp only [h.ref, h.silenceTimeout, h.port, h.group, h.service, h.schedMode, h.budget, h.regionOf]

theorem accepts (h : s.Alike t) (x : Param) (v : ParamValue) : x.accepts t v = x.accepts s v := by
  unfold Param.accepts
  simp only [h.service]

theorem write (h : s.Alike t) (x : Param) (m : Moment) (v : ParamValue) : (x.write m v s).Alike (x.write m v t) := by
  unfold Param.write
  simp only [h.port, h.group, h.service, h.regionOf]
  split
  · split
    · exact h
    · exact h.writeRate ..
  next n => exact h.update (fun s => { s with ref := { s.ref with trim := n } }) fun _ _ => rfl
  next n => exact h.update (fun s => { s with silenceTimeout := n.toNat }) fun _ _ => rfl
  · exact h.setPortPar ..
  · exact h.setPortPar ..
  · exact h.setPortPar ..
  · exact h.writeFlowControl ..
  · exact h.setGroup ..
  · exact h.setGroup ..
  · exact h.setServicePar ..
  · exact h.writeRoute ..
  · exact h.setServicePar ..
  · exact h.writeSchedMode ..
  next n => exact h.update (fun s => { s with budget := n.toNat }) fun _ _ => rfl
  · exact h.writeRegion ..
  · exact h.writeRegion ..
  · exact h

/-! ### START and STOP -/

theorem takenRegions (h : s.Alike t) : t.takenRegions = s.takenRegions := h.read State.takenRegions fun _ _ => rfl

theorem enterRun (h : s.Alike t) : s.enterRun.Alike t.enterRun := h.update State.enterRun fun _ _ => rfl

theorem leaveRun (h : s.Alike t) : s.leaveRun.Alike t.leaveRun := h.update State.leaveRun fun _ _ => rfl

/-! ### Transactions -/

theorem setSup (h : s.Alike t) (x : Supervisory) : State.Alike { s with sup := x } { t with sup := x } :=
  h.update (fun s => { s with sup := x }) fun _ _ => rfl

theorem beginTransaction (h : s.Alike t) : s.beginTransaction.Alike t.beginTransaction :=
  h.update State.beginTransaction fun _ _ => rfl

theorem carrier (h : s.Alike t) : s.carrier.Alike t.carrier := by
  unfold State.carrier
  rw [h.sup]
  split
  · exact h.beginTransaction
  · exact h

end State.Alike

/-! ### Replies -/

/-- Replies to a command that differ in the counters and alerts of their states alone. -/
structure Reply.Alike (q r : Reply) : Prop where
  state : q.state.Alike r.state
  code : r.code = q.code
  fields : r.fields = q.fields

theorem Reply.Alike.response (h : q.Alike r) (type : Byte) : r.response type = q.response type := by
  unfold Reply.response
  rw [h.code, h.fields, h.state.now]

namespace State.Alike

theorem command (h : s.Alike t) (type : Byte) {act : State → Reply} (acts : ∀ s t, s.Alike t → (act s).Alike (act t)) :
    (s.command type act).Alike (t.command type act) := by
  have carried := h.carrier
  have acted := acts _ _ carried
  rw [State.command_eq, State.command_eq, carried.sup, acted.response, acted.state.sup]
  split
  · exact carried.setSup _
  · exact acted.state.setSup _

theorem done (h : s.Alike t) : (Machine.done s).Alike (Machine.done t) := ⟨h, rfl, rfl⟩

theorem refuse (h : s.Alike t) (c : Code) : (Machine.refuse s c).Alike (Machine.refuse t c) := ⟨h, rfl, rfl⟩

/-- A record that is read from neither counters nor alerts. -/
theorem report (h : s.Alike t) (f : State → ResponseFields) (blind : ∀ a b, f (s.withWatchers a b) = f s) :
    (Machine.report s (f s)).Alike (Machine.report t (f t)) := ⟨h, rfl, h.read f blind⟩

theorem inMode (h : s.Alike t) (m : Mode) (acts : q.Alike r) : (Machine.inMode s m q).Alike (Machine.inMode t m r) := by
  unfold Machine.inMode
  rw [h.mode]
  split
  · exact acts
  · exact h.refuse _

theorem withIndex (h : s.Alike t) (n limit : Nat) {act act' : Fin limit → Reply} (acts : ∀ i, (act i).Alike (act' i)) :
    (Machine.withIndex s n limit act).Alike (Machine.withIndex t n limit act') := by
  unfold Machine.withIndex
  split
  · exact acts _
  · exact h.refuse _

theorem readParam (h : s.Alike t) (row member index : Nat) :
    (Machine.readParam row member index s).Alike (Machine.readParam row member index t) := by
  unfold Machine.readParam
  split
  · exact h.refuse _
  · exact ⟨h, rfl, congrArg ResponseFields.value (h.readOf _)⟩

theorem writeParam (h : s.Alike t) (row member index : Nat) (m : Moment) (v : ParamValue) :
    (Machine.writeParam row member index m v s).Alike (Machine.writeParam row member index m v t) := by
  unfold Machine.writeParam writeChecked
  split
  · exact h.refuse _
  · simp only [h.running, h.accepts]
    split
    · exact h.refuse _
    · split
      · exact h.refuse _
      · exact ⟨h.write .., rfl, congrArg ResponseFields.value ((h.write ..).readOf _)⟩

theorem startPart (h : s.Alike t) : (Machine.startPart s).Alike (Machine.startPart t) := by
  unfold Machine.startPart
  rw [h.takenRegions]
  split
  · exact ⟨h, rfl, rfl⟩
  · exact h.enterRun.done

theorem flushPortQueue (h : s.Alike t) (p : Port) : (Machine.flushPortQueue s p).Alike (Machine.flushPortQueue t p) := by
  unfold Machine.flushPortQueue
  simp only [h.port]
  exact ⟨(h.setPort ..).afterRemoval p, rfl, rfl⟩

theorem flushServiceCues (h : s.Alike t) (k : Service) : (Machine.flushServiceCues s k).Alike (Machine.flushServiceCues t k) := by
  unfold Machine.flushServiceCues
  simp only [h.service]
  exact ⟨(h.setService ..).foldl (fun _ _ id h => h.markCue k id .gone) _, rfl, rfl⟩

/-- The counters and the alerts are replaced. -/
theorem replaced (h : s.Alike t) (c c' : Per8 Counter) (a a' : Per8 AlertState) :
    (s.withWatchers c a).Alike (t.withWatchers c' a') := by
  obtain ⟨b, d, rfl⟩ := h
  exact ⟨c', a', rfl⟩

theorem selectCounter (h : s.Alike t) (n : Nat) (f : SelectionFields) :
    (Machine.selectCounter s n f).Alike (Machine.selectCounter t n f) := by
  refine h.withIndex n 8 fun i => ?_
  split
  · exact h.refuse _
  next c _ => exact (h.replaced (s.counters.set i c) (t.counters.set i c) s.alerts t.alerts).done

theorem clearCounter (h : s.Alike t) (n : Nat) : (Machine.clearCounter s n).Alike (Machine.clearCounter t n) :=
  h.withIndex n 8 fun i => (h.replaced (s.counters.set i (s.counters.get i).clear)
    (t.counters.set i (t.counters.get i).clear) s.alerts t.alerts).done

theorem setAlerts (h : s.Alike t) (f : Per8 AlertState → Per8 AlertState) :
    (Machine.done { s with alerts := f s.alerts }).Alike (Machine.done { t with alerts := f t.alerts }) :=
  (h.replaced s.counters t.counters (f s.alerts) (f t.alerts)).done

theorem checkReply (h : s.Alike t) (type : Option Byte) : (Machine.checkReply type s).Alike (Machine.checkReply type t) := by
  unfold Machine.checkReply
  split
  · exact h.command _ fun _ _ h => h.refuse _
  · rw [h.freeIndex]
    exact (h.update (fun u => { u with freeIndex := s.freeIndex + 1 }) fun _ _ => rfl).command _ fun _ _ h => h.refuse _

end State.Alike

/-! ### Every command -/

theorem exec_alike (h : s.Alike t) {c : Instr} (counters : ∀ n, c ≠ .counterRead n) (alerts : c ≠ .alertStatus) :
    ∃ u v, exec c s = .next u ∧ exec c t = .next v ∧ u.Alike v := by
  cases c with
  | powerOnReset =>
    refine ⟨_, _, rfl, rfl, ?_⟩
    obtain ⟨a, b, rfl⟩ := h
    exact .refl _
  | referencePulse m o => exact ⟨_, _, rfl, rfl, h.pulse m o⟩
  | missingPulse => exact ⟨_, _, rfl, rfl, h.missPulse⟩
  | lossOfReference o => exact ⟨_, _, rfl, rfl, h.loseReference o⟩
  | flywheelBoundary o => exact ⟨_, _, rfl, rfl, h.flywheelTick o⟩
  | frameLabel ok l => exact ⟨_, _, rfl, rfl, h.takeLabel ok l⟩
  | contributorFrameFailure p raw => exact ⟨_, _, rfl, rfl, h.contributorFailure p raw⟩
  | word p x => exact ⟨_, _, rfl, rfl, h.receiveBytes p _ x fun _ _ h => h.takeInWord p x⟩
  | retract p n => exact ⟨_, _, rfl, rfl, h.receive p _ fun _ _ h => h.takeInRetract p n⟩
  | stamp p x => exact ⟨_, _, rfl, rfl, h.receiveBytes p _ x fun _ _ h => h.takeInStamp p x⟩
  | take p => exact ⟨_, _, rfl, rfl, h.receive p _ fun _ _ h => h.decideTake p⟩
  | release p => exact ⟨_, _, rfl, rfl, h.receive p _ fun _ _ h => h.decideRelease p⟩
  | pkgOpen p id n => exact ⟨_, _, rfl, rfl, h.receive p _ fun _ _ h => .unless (h.push ..)⟩
  | pkgCue p x => exact ⟨_, _, rfl, rfl, h.receive p _ fun _ _ h => .map _ fun _ => h.push ..⟩
  | pkgClose p id => exact ⟨_, _, rfl, rfl, h.receive p _ fun _ _ h => .unless (h.push ..)⟩
  | pkgDrop p id => exact ⟨_, _, rfl, rfl, h.receive p _ fun _ _ h => .unless (h.push ..)⟩
  | refreshDeadlineExpiry p => exact ⟨_, _, rfl, rfl, h.expireRefresh p⟩
  | silenceDeadlineExpiry p => exact ⟨_, _, rfl, rfl, h.expireSilence p⟩
  | wordRecordTake p => exact ⟨_, _, rfl, rfl, h.takeWord p⟩
  | retractRecordTake p => exact ⟨_, _, rfl, rfl, h.takeRetract p⟩
  | pkgOpenTake p => exact ⟨_, _, rfl, rfl, h.takeOpen p⟩
  | pkgCueTake p => exact ⟨_, _, rfl, rfl, h.takeCue p⟩
  | pkgCloseTake p => exact ⟨_, _, rfl, rfl, h.takeClose p⟩
  | pkgDropTake p => exact ⟨_, _, rfl, rfl, h.takeDrop p⟩
  | yieldDeadlineExpiry g => exact ⟨_, _, rfl, rfl, h.expireYield g⟩
  | cutTimeAged g => exact ⟨_, _, rfl, rfl, h.ageCut g⟩
  | idleDeadlineExpiry k => exact ⟨_, _, rfl, rfl, h.expireIdle k⟩
  | clearDeadlineExpiry k => exact ⟨_, _, rfl, rfl, h.expireClear k⟩
  | outputStalled => exact ⟨_, _, rfl, rfl, h.checkStall⟩
  | ready => exact ⟨_, _, rfl, rfl, h.update (fun s => { s with inserter := .ready }) fun _ _ => rfl⟩
  | busy => exact ⟨_, _, rfl, rfl, h.update (fun s => { s with inserter := .busy }) fun _ _ => rfl⟩
  | outputFrameDropped => exact ⟨_, _, rfl, rfl, h⟩
  | event x => exact ⟨_, _, rfl, rfl, h.takeEvent x⟩
  | automationFrameDropped => exact ⟨_, _, rfl, rfl, h⟩
  | effectTimeExpiry => exact ⟨_, _, rfl, rfl, h.expireEffects⟩
  | switchTimeExpiry k => exact ⟨_, _, rfl, rfl, h.expireSwitches k⟩
  | liveStartAged k => exact ⟨_, _, rfl, rfl, h.ageLiveStart k⟩
  | lastChangeAged k => exact ⟨_, _, rfl, rfl, h.ageLastChange k⟩
  | transactionStart => exact ⟨_, _, rfl, rfl, h.beginTransaction⟩
  | commandCheckFailed raw =>
    simp only [exec, execCommandCheckFailed]
    split
    · exact ⟨_, _, rfl, rfl, h.checkReply _⟩
    · exact ⟨_, _, rfl, rfl, h⟩
  | unknownCommandType type =>
    simp only [exec, execUnknownCommandType]
    split
    · exact ⟨_, _, rfl, rfl, h⟩
    · exact ⟨_, _, rfl, rfl, h.command _ fun _ _ h => h.refuse _⟩
  | parameterRead row member index => exact ⟨_, _, rfl, rfl, h.command _ fun _ _ h => h.readParam ..⟩
  | parameterWrite m row member index v => exact ⟨_, _, rfl, rfl, h.command _ fun _ _ h => h.writeParam ..⟩
  | frameRateWrite m v => exact ⟨_, _, rfl, rfl, h.command _ fun _ _ h => h.writeParam ..⟩
  | configuredRouteWrite index v => exact ⟨_, _, rfl, rfl, h.command _ fun _ _ h => h.writeParam ..⟩
  | flowControlWrite index v => exact ⟨_, _, rfl, rfl, h.command _ fun _ _ h => h.writeParam ..⟩
  | schedulingModeWrite v => exact ⟨_, _, rfl, rfl, h.command _ fun _ _ h => h.writeParam ..⟩
  | poolRegionWrite member v => exact ⟨_, _, rfl, rfl, h.command _ fun _ _ h => h.writeParam ..⟩
  | start => exact ⟨_, _, rfl, rfl, h.command _ fun _ _ h => h.inMode _ h.startPart⟩
  | stop => exact ⟨_, _, rfl, rfl, h.command _ fun _ _ h => h.inMode _ h.leaveRun.done⟩
  | flushPort n =>
    exact ⟨_, _, rfl, rfl, h.command _ fun _ _ h => h.inMode _ (h.withIndex n 8 fun p => h.flushPortQueue p)⟩
  | flushService n =>
    exact ⟨_, _, rfl, rfl, h.command _ fun _ _ h => h.inMode _ (h.withIndex n 4 fun k => h.flushServiceCues k)⟩
  | counterSelect n f => exact ⟨_, _, rfl, rfl, h.command _ fun _ _ h => h.selectCounter n f⟩
  | counterClear n => exact ⟨_, _, rfl, rfl, h.command _ fun _ _ h => h.clearCounter n⟩
  | counterRead named => exact absurd rfl (counters named)
  | alertStatus => exact absurd rfl alerts
  | alertClear marks => exact ⟨_, _, rfl, rfl, h.command _ fun _ _ h => h.setAlerts (clearMarked · marks)⟩
  | alertEnable marks => exact ⟨_, _, rfl, rfl, h.command _ fun _ _ h => h.setAlerts (enableMarked · marks)⟩
  | referenceStatus =>
    exact ⟨_, _, rfl, rfl, h.command _ fun _ _ h => h.report (fun t => .reference t.referenceStatus) fun _ _ => rfl⟩
  | portStatus n =>
    exact ⟨_, _, rfl, rfl, h.command _ fun _ _ h => h.withIndex n 8 fun p =>
      h.report (fun t => .port (t.portStatus p)) fun _ _ => rfl⟩
  | groupStatus n =>
    exact ⟨_, _, rfl, rfl, h.command _ fun _ _ h => h.withIndex n 4 fun g =>
      h.report (fun t => .group (t.groupStatus g)) fun _ _ => rfl⟩
  | serviceStatus n =>
    exact ⟨_, _, rfl, rfl, h.command _ fun _ _ h => h.withIndex n 4 fun k =>
      h.report (fun t => .service (t.serviceStatus k)) fun _ _ => rfl⟩
  | layoutStatus =>
    exact ⟨_, _, rfl, rfl, h.command _ fun _ _ h => h.report (fun t => .layout t.layoutStatus) fun _ _ => rfl⟩
  | automationStatus =>
    exact ⟨_, _, rfl, rfl, h.command _ fun _ _ h => h.report (fun t => .automation t.automationStatus) fun _ _ => rfl⟩
  | packageStatus =>
    exact ⟨_, _, rfl, rfl, h.command _ fun _ _ h => h.report State.packageStatus fun _ _ => rfl⟩
  | responseReady =>
    exact ⟨_, _, rfl, rfl, h.update (fun s => { s with sup := s.sup.finish }) fun _ _ => rfl⟩

/-! ### The two reports of what watches -/

/-- The states differ in counters, alerts and the supervisory unit alone. -/
def State.AlikeButSup (s t : State) : Prop := t = { s with counters := t.counters, alerts := t.alerts, sup := t.sup }

theorem State.Alike.butSup (h : s.Alike t) : s.AlikeButSup t := by
  obtain ⟨a, b, rfl⟩ := h
  rfl

theorem State.Alike.setSups (h : s.Alike t) (x y : Supervisory) :
    State.AlikeButSup { s with sup := x } { t with sup := y } := by
  obtain ⟨a, b, rfl⟩ := h
  rfl

theorem State.Alike.commandStates (h : s.Alike t) (type : Byte) {act : State → Reply}
    (acts : ∀ s t, s.Alike t → (act s).state.Alike (act t).state) :
    (s.command type act).AlikeButSup (t.command type act) := by
  have carried := h.carrier
  have acted := acts _ _ carried
  rw [State.command_eq, State.command_eq, carried.sup]
  split
  · exact carried.setSups _ _
  · exact acted.setSups _ _

end Sys2Proof.Machine

open Sys2Proof.Machine

/-- Settles O14: no operation reads counters or alerts but the occurrences and samples that change them alone, and the two
commands that report them. -/
theorem watchersDoNotSteer : Obligations.WatchersDoNotSteer := by
  intro c s a b t next
  have h : s.Alike (s.withWatchers a b) := ⟨a, b, rfl⟩
  by_cases reports : (∀ n, c ≠ .counterRead n) ∧ c ≠ .alertStatus
  · obtain ⟨t', u, first, last, alike⟩ := exec_alike h reports.1 reports.2
    cases next.symm.trans first
    exact ⟨u, last, alike.butSup, fun _ _ => alike.sup⟩
  · have read : (∃ n, c = .counterRead n) ∨ c = .alertStatus := by
      by_cases status : c = .alertStatus
      · exact Or.inr status
      · exact Or.inl (by simpa [status] using reports)
    rcases read with ⟨n, rfl⟩ | rfl <;> cases next
    · exact ⟨_, rfl, h.commandStates _ fun s t h => h.replaced (clearNamed s.counters n) (clearNamed t.counters n) s.alerts t.alerts,
        fun no _ => absurd rfl (no n)⟩
    · exact ⟨_, rfl, h.commandStates _ fun _ _ h => h, fun _ no => absurd rfl no⟩

end
